-- ==== Sys2Proof/Word.lean ====
section
/-! DEFINITION. The one word of the TF48's lines: a byte. Everything else the spec counts is a number. -/

namespace Sys2Proof

/-- One byte of a link frame, a chain block or the configuration image (R176, R135, R162). -/
abbrev Byte := BitVec 8

end Sys2Proof
end

