-- ==== Sys2Proof/Config.lean ====
section
/-! DEFINITION. What one bore image fixes: the types of the quantities of R1 to R11, R77 and R126. The
part's behaviour leaves no value undefined, so there is no free value here. -/

namespace Sys2Proof

/-- A travel direction or head face (R1): rising traffic travels toward increasing chainage. -/
inductive Dir
  | rising
  | falling
  deriving DecidableEq, Repr

/-- The two supervisor links (R176), also the two link origins (R86, R105, R117, R121, R149). -/
inductive Link
  | a
  | b
  deriving DecidableEq, Repr

/-- Lane kind (R2). -/
inductive LaneKind
  | fixedRising
  | fixedFalling
  | tidal
  deriving DecidableEq, Repr

/-- Escape preference (R3). -/
inductive Escape
  | lo
  | hi
  deriving DecidableEq, Repr

/-- Gantry role (R4). -/
inductive Role
  | approach1
  | body
  | approach2
  deriving DecidableEq, Repr

/-- Rising side (R11, R12). -/
inductive RisingSide
  | lo
  | hi
  deriving DecidableEq, Repr

/-- Function of an emergency input, with its target where it has one (R126). -/
inductive InputFunction
  | unrouted
  | zoneStop (zone : Nat)
  | portalStop (portal : Nat)
  | sequenceHold
  | lockLink (link : Link)
  deriving DecidableEq, Repr

/-- Level of a contact line (R126). -/
inductive Contact
  | opened
  | closed
  deriving DecidableEq, Repr

/-- Polarity of an emergency input (R127). -/
inductive Polarity
  | activeOpen
  | activeClosed
  deriving DecidableEq, Repr

/-- Filter time of an emergency input: 10, 50, 200 or 1000 ms (R126). -/
inductive FilterTime
  | ms10
  | ms50
  | ms200
  | ms1000
  deriving DecidableEq, Repr

/-- Image entry of a lane (R2, R3). -/
structure LaneCfg where
  kind : LaneKind
  escape : Escape
  deriving DecidableEq, Repr

/-- Image entry of a gantry (R4, R5, R77). The presence word is the image's own (chapter 10): bit L-1 stands
for the rising head of lane L, bit L+7 for the falling head. -/
structure GantryCfg where
  chainage : Nat
  role : Role
  presence : BitVec 16
  probeK : Nat
  probeO : Nat
  deriving DecidableEq, Repr

/-- Image entry of a detector station (R8). -/
structure StationCfg where
  chainage : Nat
  persistence : Nat
  deriving DecidableEq, Repr

/-- Image entry of a zone: its chainage span (R10). -/
structure ZoneCfg where
  fromC : Nat
  toC : Nat
  deriving DecidableEq, Repr

/-- Image entry of an emergency input (R126). -/
structure InputCfg where
  function : InputFunction
  polarity : Polarity
  filter : FilterTime
  deriving DecidableEq, Repr

/-- The bore as loaded: the settings of R11 and the tables of the image, read-only until the next load. -/
structure Bore where
  risingSide : RisingSide
  bufferRequired : Bool
  leadIn : Nat
  pitch : Nat
  crawl : Nat
  minHold : Nat
  clearingTimeout : Nat
  restoreWindow : Nat
  proofTimeout : Nat
  lampLimit : Nat
  lanes : List LaneCfg
  gantries : List GantryCfg
  stations : List StationCfg
  zones : List ZoneCfg
  inputs : List InputCfg
  deriving DecidableEq, Repr

end Sys2Proof
end

