-- ==== Sys2Proof/Syntax.lean ====
section
/-! DEFINITION. The commands of the TF48: one constructor per row of spec/opcode_table.json, with its operands. -/

namespace Sys2Proof

/-- What a link's RX line delivers: a byte, or a byte whose stop bit is received low (R176). -/
inductive LineEvent
  | byte (b : Byte)
  | framingError
  deriving DecidableEq, Repr

/-- What one chain channel delivered within a reply window, if anything (R143). -/
abbrev Heard := Option (List Byte)

/-- One constructor per row of the table of operations and events. A request carries the link it is taken on and
the payload bytes after its code, however many there are (R181, R190): `fields`. -/
inductive Instr
  /-- RESET_N driven low (R160, R183). -/
  | resetNAssert
  /-- RESET_N released, or power-up (R160). -/
  | resetNRelease
  /-- Falling edge of RESTART_N (R171). -/
  | restartNFall
  /-- STATUS, code 0x10 (R187). -/
  | status (link : Link) (fields : List Byte)
  /-- SUMMARY, code 0x11 (R185). -/
  | summary (link : Link) (fields : List Byte)
  /-- READ_LANE, code 0x12 (R112). -/
  | readLane (link : Link) (fields : List Byte)
  /-- READ_SECTIONS, code 0x13 (R42). -/
  | readSections (link : Link) (fields : List Byte)
  /-- READ_GANTRY, code 0x14 (R85). -/
  | readGantry (link : Link) (fields : List Byte)
  /-- READ_CONTEXT, code 0x15 (R113). -/
  | readContext (link : Link) (fields : List Byte)
  /-- READ_NODE, code 0x16 (R156). -/
  | readNode (link : Link) (fields : List Byte)
  /-- READ_CLOSURES, code 0x17 (R132). -/
  | readClosures (link : Link) (fields : List Byte)
  /-- READ_OVERLAYS, code 0x18 (R133). -/
  | readOverlays (link : Link) (fields : List Byte)
  /-- READ_INPUTS, code 0x19 (R133). -/
  | readInputs (link : Link) (fields : List Byte)
  /-- READ_SERVICE, code 0x1A (R157). -/
  | readService (link : Link) (fields : List Byte)
  /-- CHANGE, code 0x20 (R88). -/
  | change (link : Link) (fields : List Byte)
  /-- CANCEL, code 0x21 (R103, R104). -/
  | cancel (link : Link) (fields : List Byte)
  /-- HOLD, code 0x22 (R105). -/
  | hold (link : Link) (fields : List Byte)
  /-- RESUME, code 0x23 (R106). -/
  | resume (link : Link) (fields : List Byte)
  /-- ALLOW_REVERSAL, code 0x24 (R108). -/
  | allowReversal (link : Link) (fields : List Byte)
  /-- CLOSE_SPAN, code 0x25 (R118). -/
  | closeSpan (link : Link) (fields : List Byte)
  /-- REOPEN_SPAN, code 0x26 (R119). -/
  | reopenSpan (link : Link) (fields : List Byte)
  /-- RAISE_OVERLAY, code 0x27 (R123). -/
  | raiseOverlay (link : Link) (fields : List Byte)
  /-- RELEASE_OVERLAY, code 0x28 (R125). -/
  | releaseOverlay (link : Link) (fields : List Byte)
  /-- RESTORE, code 0x29, whose mode byte is not DIRECT (R34, R35). -/
  | restoreSweep (link : Link) (fields : List Byte)
  /-- RESTORE, code 0x29, whose mode byte is not SWEEP (R34, R37). -/
  | restoreDirect (link : Link) (fields : List Byte)
  /-- CONFIRM_RESTORE, code 0x2A (R39). -/
  | confirmRestore (link : Link) (fields : List Byte)
  /-- SERVICE, code 0x2B (R150). -/
  | service (link : Link) (fields : List Byte)
  /-- RESYNC, code 0x2C (R81). -/
  | resync (link : Link) (fields : List Byte)
  /-- RESEND, code 0x2D (R82). -/
  | resend (link : Link) (fields : List Byte)
  /-- ENTER_CONFIG, code 0x30 (R173). -/
  | enterConfig (link : Link) (fields : List Byte)
  /-- RELOAD, code 0x31 (R160). -/
  | reload (link : Link) (fields : List Byte)
  /-- RESTART, code 0x32 (R171). -/
  | restart (link : Link) (fields : List Byte)
  /-- A taken frame whose first payload byte is no request code (R181). -/
  | unknownRequestCode (link : Link) (payload : List Byte)
  /-- A frame taken while the unit is serving (R180). -/
  | overrun (link : Link) (payload : List Byte)
  /-- What the line delivers up to and with the event that discards a partial frame (R178). -/
  | linkFrameDiscard (link : Link) (events : List LineEvent)
  /-- What the line delivers, then more than 5 ms of quiet within a frame, then the late event (R178). -/
  | linkGapTimeout (link : Link) (events : List LineEvent) (late : LineEvent)
  /-- The last byte of the reply is sent (R179). -/
  | replySent (link : Link)
  /-- Contact line of an emergency input moves to a level (R127). -/
  | einContactChange (input : Nat) (level : Contact)
  /-- The pending time of an input reaches its filter time (R127). -/
  | filteredLevelChange (input : Nat)
  /-- A chain frame begins (R136, R138). -/
  | chainFrameStart
  /-- The reply window of a node ends, with what channels A and B delivered in it (R143). -/
  | nodeReplyWindowEnd (node : Nat) (heardA heardB : Heard)
  /-- A reply window end at which the node's busy run reaches 250 (R147). -/
  | busyExpiry (node : Nat) (heardA heardB : Heard)
  /-- A reply window end at which the miss run reaches 25 and the node becomes LOST (R145). -/
  | nodeLost (node : Nat) (heardA heardB : Heard)
  /-- A reply window end at which the miss run of a GOOD node reaches 3 (R145). -/
  | nodeSuspect (node : Nat) (heardA heardB : Heard)
  /-- A reply window end at which the data run of a LOST node reaches 50 (R145). -/
  | nodeRecovered (node : Nat) (heardA heardB : Heard)
  /-- A gantry's reply window end at which a head's proof counter reaches the proof timeout (R71). -/
  | proofTimeout (gantry lane : Nat) (face : Dir) (heardA heardB : Heard)
  /-- A gantry's reply window end at which a FAILED head completes its recovery run (R75, R79). -/
  | recoveryRunComplete (gantry lane : Nat) (face : Dir) (heardA heardB : Heard)
  /-- A gantry's reply window end at which a head's wrong-arrow run reaches 3 (R84). -/
  | wrongArrow (gantry lane : Nat) (face : Dir) (heardA heardB : Heard)
  /-- The window of a pending direct restore reaches 0 (R37). -/
  | restoreWindowExpiry (lane index : Nat)
  /-- The service slot of the frame under way begins (R151). -/
  | serviceSlotStart
  /-- The service reply window ends, with what channels A and B delivered in it (R152). -/
  | serviceComplete (heardA heardB : Heard)
  /-- The last node's reply window end at which the startup frame count reaches 250 (R168). -/
  | startupTimeout (heardA heardB : Heard)
  /-- A lane's hold timer runs out (R94). -/
  | holdTimerExpiry (lane : Nat)
  /-- A lane's clearing time reaches the clearing timeout (R96). -/
  | clearingTimeout (lane : Nat)
  /-- The configuration bus has been idle for 1 ms and an attempt begins (R162). -/
  | cfgAttemptStart
  /-- The bus was not idle within 10 ms of the attempt falling due (R162). -/
  | cfgIdleTimeout
  /-- 10 ms after a failed attempt the next falls due (R162). -/
  | cfgRetryDue
  /-- The header read ends with the 16 bytes read (R163). -/
  | headerReadComplete (bytes : List Byte)
  /-- The body read ends with the bytes read (R163, R164). -/
  | bodyReadComplete (bytes : List Byte)
  /-- The memory does not acknowledge during an attempt (R162). -/
  | memoryNotAcknowledged
  deriving DecidableEq, Repr

end Sys2Proof
end

