-- ==== Sys2Proof/Decode.lean ====
section
/-! DEFINITION. Commands spelled by table words: none, since spec/opcode_table.json gives no row any bits (log 33). -/

namespace Sys2Proof

/-- The command a word of the table spells: none for every word. -/
def decodeTableWord (_nbits _w : Nat) : Option Instr := none

end Sys2Proof
end

