-- ==== Sys2Proof/Machine/State.lean ====
section
/-! DEFINITION. The state of the TF48 as plain data, block by block as 00_scope.md lays them out, and the state right
after a full reset. INVENTORY.md lists every field with its rule. -/

namespace Sys2Proof.Machine

open Sys2Proof

/-! ### Names of values (chapter 10, code sets) -/

/-- What a head shows or is reported to show (R67). UNKNOWN: no report taken. -/
inductive Aspect
  | dark
  | arrow
  | cross
  | divertLo
  | divertHi
  | unknown
  deriving DecidableEq, Repr

/-- Intended aspects: DARK and UNKNOWN are none of them (R43). -/
inductive Intended
  | arrow
  | cross
  | divertLo
  | divertHi
  deriving DecidableEq, Repr

/-- Lane phase (R15). -/
inductive Phase
  | closed
  | opened
  | closing
  | clearing
  | cleared
  | openingBody
  | openingEntry
  deriving DecidableEq, Repr

/-- Target of a lane in a CHANGE (R86, R88): open in a direction, or CLOSED. -/
inductive Target
  | opened (d : Dir)
  | closed
  deriving DecidableEq, Repr

/-- Wait reason of a context (R86). -/
inductive WaitReason
  | unset
  | protection
  | occupied
  | disturbed
  | hold
  | inhibit
  | opposing
  | pattern
  | settling
  deriving DecidableEq, Repr

/-- Outcome of a DONE context (R86). -/
inductive CtxOutcome
  | completed
  | cancelled
  | abortedRestart
  | abortedConflict
  deriving DecidableEq, Repr

/-- Part state (R159). -/
inductive PartState
  | loading
  | fault
  | startup
  | run
  | config
  deriving DecidableEq, Repr

/-- Startup kind (R159). -/
inductive StartupKind
  | fresh
  | restarted
  deriving DecidableEq, Repr

/-- Load fault code (R159). -/
inductive LoadCode
  | unset
  | noAck
  | format
  | crc
  | range
  | order
  | pattern
  deriving DecidableEq, Repr

/-- Table named by the load fault record (R159). -/
inductive ImageTable
  | unset
  | bore
  | lanes
  | gantries
  | stations
  | zones
  | inputs
  deriving DecidableEq, Repr

/-- Decode phase of a crossing point (R19, R22). -/
inductive Decode
  | idle
  | r1
  | r2
  | r3
  | f1
  | f2
  | f3
  deriving DecidableEq, Repr

/-- A loop pair, loop A first (R19): 10 is `⟨true, false⟩`. -/
structure LoopPair where
  a : Bool
  b : Bool
  deriving DecidableEq, Repr

/-- Probe result of a head (R67). -/
inductive Probe
  | unset
  | pass
  | fail
  deriving DecidableEq, Repr

/-- Node health (R144). -/
inductive Health
  | integrating
  | good
  | suspect
  | lost
  deriving DecidableEq, Repr

/-- Node kind (R144). -/
inductive NodeKind
  | gantry
  | station
  deriving DecidableEq, Repr

/-- Module or station status (R140, R141). -/
inductive ModStatus
  | ready
  | busy
  | fallback
  | fault
  deriving DecidableEq, Repr

/-- Kind of a chain frame (R138). -/
inductive FrameKind
  | hold
  | drive
  | closedown
  deriving DecidableEq, Repr

/-- Service operation (R153). -/
inductive Operation
  | identify
  | probeNow
  | lampDetail
  | loopDetail
  | nodeReset
  deriving DecidableEq, Repr

/-- Outcome of a service transaction (R152). -/
inductive SvcOutcome
  | done
  | noReply
  | disagree
  deriving DecidableEq, Repr

/-! ### Pins and the Part State Controller -/

/-- Input levels the part does not set: RESET_N and the sixteen contact lines (00_scope.md, R126). -/
structure Pins where
  resetLow : Bool
  contacts : List Contact
  deriving DecidableEq, Repr

/-- Load fault record (R159). -/
structure LoadFault where
  code : LoadCode
  table : ImageTable
  entry : Option Nat
  deriving DecidableEq, Repr

/-- Part State Controller (R159). `startupKind` is present in STARTUP only; `startupFrames` is 0 outside it. -/
structure PartControl where
  part : PartState
  startupKind : Option StartupKind
  startupFrames : Nat
  loadFault : LoadFault
  deriving DecidableEq, Repr

/-! ### Configuration Loader (R162, R163) -/

/-- The two transactions of a load. -/
inductive Transaction
  | header
  | body
  deriving DecidableEq, Repr

/-- Where the attempt in hand stands: due and waiting for an idle bus, reading, waiting 10 ms after a failure, or no
attempt in hand. -/
inductive AttemptPhase
  | due
  | reading
  | waiting
  | idle
  deriving DecidableEq, Repr

/-- What passes on the configuration bus, as the part makes it: a start or repeated start condition, a byte sent, a data
byte read with the part's acknowledge or without, a stop condition (R162). -/
inductive BusEvent
  | start
  | send (b : Byte)
  | read (b : Byte) (acknowledged : Bool)
  | stop
  deriving DecidableEq, Repr

/-- The loader's transaction, attempts and the header fields it keeps between the two reads; `bus` is what the attempt in
hand, or the read it ended with, has put on the bus. -/
structure Loader where
  transaction : Transaction
  phase : AttemptPhase
  failed : Nat
  waitMs : Nat
  totalLength : Nat
  crc : BitVec 32
  bus : List BusEvent
  deriving DecidableEq, Repr

/-! ### Link Units (chapter 09) -/

/-- Receive phase (R177). -/
inductive RxPhase
  | awaitStart
  | awaitLength
  | payload
  | crc
  deriving DecidableEq, Repr

/-- The receiver: its phase and what it holds of the frame being assembled (R177). -/
structure Receiver where
  phase : RxPhase
  length : Nat
  payload : List Byte
  crc : List Byte
  deriving DecidableEq, Repr

/-- What waits for the last byte of a reply: nothing, entry to LOADING (R160) or a restart (R171). -/
inductive ReplyAction
  | unset
  | reload
  | restart
  deriving DecidableEq, Repr

/-- The request frame held and the reply due for it, both as payloads; `age` counts ms since the taking. -/
structure Exchange where
  request : List Byte
  reply : List Byte
  action : ReplyAction
  age : Nat
  deriving DecidableEq, Repr

/-- A reply that was due when LOADING was entered and is still sent in full (R179); `age` counts ms since the taking of
its request, and stands at 10 while an earlier reply has the line. -/
structure Leaving where
  reply : List Byte
  age : Nat
  deriving DecidableEq, Repr

/-- One Link Unit. Entry to LOADING ends the serving of a request whose reply is due (R183), and that reply goes on to
its end among those `leaving`, the oldest first; a request taken after a short LOADING has its own `exchange` behind
them (R179). -/
structure LinkUnit where
  rx : Receiver
  serving : Bool
  exchange : Option Exchange
  leaving : List Leaving
  overrun : Bool
  vector : BitVec 154
  deriving DecidableEq, Repr

/-! ### Lane Plan Unit (R15, R86, R105, R107) -/

/-- Lane record (R15). `holdMs` and `clearMs` are the milliseconds elapsed of the current 100 ms and second. -/
structure LaneRecord where
  lane : Nat
  kind : LaneKind
  escape : Escape
  phase : Phase
  direction : Option Dir
  context : Option Nat
  overdue : Bool
  unprotRising : Bool
  unprotFalling : Bool
  conflict : Bool
  holdRunning : Bool
  holdRemaining : Nat
  clearingTime : Option Nat
  holdMs : Nat
  clearMs : Nat
  deriving DecidableEq, Repr

/-- Entry of a context's lane list (R86). `start` is the starting phase and direction: OPEN in a direction, or CLOSED
where it is absent. The snapshot is the list of occupancies; its sum is computed where it is served. -/
structure CtxEntry where
  lane : Nat
  start : Option Dir
  target : Target
  held : Bool
  snapshot : Option (List Nat)
  deriving DecidableEq, Repr

/-- Fields of an ACTIVE or DONE context (R86). -/
structure CtxBody where
  origin : Link
  entries : List CtxEntry
  wait : WaitReason
  started : Nat
  deriving DecidableEq, Repr

/-- A change context (R86). -/
inductive Ctx
  | free
  | active (body : CtxBody)
  | done (body : CtxBody) (outcome : CtxOutcome)
  deriving DecidableEq, Repr

/-- The sequencing hold's origin set (R105): link origins, and input numbers in rising order. -/
structure HoldSet where
  linkA : Bool
  linkB : Bool
  inputs : List Nat
  deriving DecidableEq, Repr

/-- Lane Plan Unit. `runMs` is the milliseconds elapsed of the run clock's current second. -/
structure LanePlan where
  lanes : List LaneRecord
  contexts : List Ctx
  pointer : Nat
  inhibit : Bool
  hold : HoldSet
  runClock : Nat
  runMs : Nat
  deriving DecidableEq, Repr

/-! ### Occupancy Counting Unit (R19, R29) -/

/-- Crossing-point record (R19). -/
structure Crossing where
  station : Nat
  lane : Nat
  phase : Decode
  accepted : LoopPair
  candidate : Option LoopPair
  count : Nat
  loopFault : Bool
  faulty : Bool
  deriving DecidableEq, Repr

/-- Section state with the fields present in it alone (R29): the sweep mark of PREPARED; the requester and window of
RESTORE_PENDING, with the milliseconds elapsed of the window's current second. -/
inductive SectionState
  | clear
  | occupied
  | disturbed
  | prepared (mark : Bool)
  | restorePending (requester : Link) (window : Nat) (windowMs : Nat)
  deriving DecidableEq, Repr

/-- Section record (R29). -/
structure SectionRecord where
  lane : Nat
  index : Nat
  fromC : Nat
  toC : Nat
  capacity : Nat
  occupancy : Nat
  state : SectionState
  deriving DecidableEq, Repr

/-- Occupancy Counting Unit: crossing points by station then lane, sections by lane then index. -/
structure Counting where
  crossings : List Crossing
  sections : List SectionRecord
  deriving DecidableEq, Repr

/-! ### Aspect Derivation Engine (R43) -/

/-- Where an obstruction comes from: a lane's entry closure (R48) or a span closure record (R49). -/
inductive ObstructionSource
  | entry
  | span (record : Nat)
  deriving DecidableEq, Repr

/-- One obstruction of the result: its face, its end point, the gantry of its protecting head in use or none, and the
gantries of its lead heads in travel order (R43, R48, R49, R55). -/
structure Obstruction where
  source : ObstructionSource
  lane : Nat
  face : Dir
  endT : Option Nat
  protecting : Option Nat
  leads : List Nat
  deriving DecidableEq, Repr

/-! ### Head Table (R67) -/

/-- Fail cause; the probe cleared mark is present in FAILED(PROBE) only (R67). -/
inductive FailCause
  | lamp
  | mismatch
  | probe (cleared : Bool)
  | node
  deriving DecidableEq, Repr

/-- Debounce count of a head in AWAITING (R67). -/
inductive Debounce
  | unset
  | one
  | two
  deriving DecidableEq, Repr

/-- Proof state with the fields present in it alone (R67). -/
inductive Proof
  | unknown
  | awaiting (debounce : Debounce)
  | proven
  | failed (cause : FailCause)
  deriving DecidableEq, Repr

/-- Head record (R67). -/
structure HeadRecord where
  gantry : Nat
  lane : Nat
  face : Dir
  intended : Intended
  reported : Aspect
  strings : Nat
  proof : Proof
  counter : Nat
  probe : Probe
  wrongRun : Nat
  deriving DecidableEq, Repr

/-! ### Closure and Overlay Store (R117, R121) and Emergency Input Unit (R126) -/

/-- A present span closure record (R117). -/
structure Span where
  lane : Nat
  fromC : Nat
  toC : Nat
  origin : Link
  deriving DecidableEq, Repr

/-- Overlay target (R121). -/
inductive OverlayTarget
  | zone (z : Nat)
  | portal (p : Nat)
  deriving DecidableEq, Repr

/-- An input origin of an overlay with its mark (R121). -/
structure InputOrigin where
  input : Nat
  active : Bool
  deriving DecidableEq, Repr

/-- An overlay: target and origin list, link origins first, inputs by number (R121). -/
structure Overlay where
  target : OverlayTarget
  linkA : Bool
  linkB : Bool
  inputs : List InputOrigin
  deriving DecidableEq, Repr

/-- Closure and Overlay Store: twelve span records while an image is held, and the overlay set in target order. -/
structure Store where
  spans : List (Option Span)
  overlays : List Overlay
  deriving DecidableEq, Repr

/-- Emergency input record, less its contact, which is a pin (R126). -/
structure InputRecord where
  cfg : InputCfg
  active : Bool
  pending : Nat
  deriving DecidableEq, Repr

/-! ### Gantry Chain Controller (R136, R144, R149, R152) -/

/-- Node record (R144). -/
structure NodeRecord where
  node : Nat
  kind : NodeKind
  health : Health
  lastStatus : Option ModStatus
  missRun : Nat
  dataRun : Nat
  busyRun : Nat
  disagreements : Nat
  answeredA : Bool
  answeredB : Bool
  busyExpired : Bool
  deriving DecidableEq, Repr

/-- Entry of the service queue (R149). -/
structure ServiceEntry where
  origin : Link
  node : Nat
  operation : Operation
  inFlight : Bool
  deriving DecidableEq, Repr

/-- Service result record (R152). -/
structure ServiceResult where
  node : Nat
  operation : Operation
  outcome : SvcOutcome
  cycle : Nat
  status : Option ModStatus
  data : List Byte
  deriving DecidableEq, Repr

/-- The chain frame under way (R136 to R139): cycle number, kind, the header block sent first, the node whose slot is under
way (after the last node's, one number more), the command block sent in it, whether its service slot has begun, and
whether a restart or entry to LOADING has cut it short. -/
structure Frame where
  cycle : Nat
  kind : FrameKind
  header : List Byte
  slot : Nat
  command : List Byte
  serviceBegun : Bool
  cut : Bool
  deriving DecidableEq, Repr

/-- Gantry Chain Controller. -/
structure Chain where
  frame : Option Frame
  nextCycle : Nat
  lastEnded : Option Nat
  untilNext : Nat
  nodes : List NodeRecord
  queue : List ServiceEntry
  resultA : Option ServiceResult
  resultB : Option ServiceResult
  deriving DecidableEq, Repr

/-! ### The machine -/

/-- The whole state of the part, and the queue of commands waiting to be taken. -/
structure State where
  pending : List Instr
  pins : Pins
  psc : PartControl
  loader : Loader
  image : Option Bore
  linkA : LinkUnit
  linkB : LinkUnit
  plan : LanePlan
  count : Counting
  obstructions : List Obstruction
  heads : List HeadRecord
  store : Store
  inputs : List InputRecord
  chain : Chain
  deriving DecidableEq, Repr

/-- No step of the TF48 stops the machine: what the spec calls FAULT is a part state (R165). So there is no fault. -/
inductive Fault
  deriving DecidableEq, Repr

/-- Reasons to refuse a command. -/
inductive Refusal
  /-- Raised by `exec` for a row with no meaning yet; no row is left so. Safe: the machine stops. -/
  | notModelled (mnemonic : String)
  deriving DecidableEq, Repr

/-- What one step answers. -/
abbrev Out := Host.Outcome State Fault Refusal

/-! ### Reset -/

/-- Receiver waiting for a start byte (R177). -/
def Receiver.idle : Receiver := ⟨.awaitStart, 0, [], []⟩

/-- A vector with all 154 flags set (R184). -/
def fullVector : BitVec 154 := BitVec.allOnes 154

/-- A Link Unit as entry to LOADING sets it (R183). -/
def LinkUnit.formed : LinkUnit := ⟨Receiver.idle, false, none, [], false, fullVector⟩

/-- Load fault record NONE (R159). -/
def LoadFault.clear : LoadFault := ⟨.unset, .unset, none⟩

/-- Loader with the header read due (R162). -/
def Loader.begin : Loader := ⟨.header, .due, 0, 0, 0, 0, []⟩

/-- No hold origin (R106). -/
def HoldSet.empty : HoldSet := ⟨false, false, []⟩

/-- Lane Plan Unit after a full reset or RELOAD, and in LOADING and FAULT (R18, R86, R87, R106, R107, R115). -/
def LanePlan.formed : LanePlan :=
  ⟨[], List.replicate 6 Ctx.free, 0, true, HoldSet.empty, 0, 0⟩

/-- Chain Controller without an image: silent, no records (R135, R137, R144, R155). -/
def Chain.silent : Chain := ⟨none, 0, none, 0, [], [], none, none⟩

/-- The machine right after a full reset: LOADING with the header read due, no image and no record formed from one,
both vectors fully set, the inhibit set. The contact levels are outside levels the spec gives no value: OPEN,
DESIGN CHOICE, unsafe (log 2). -/
def State.reset : State where
  pending := []
  pins := ⟨false, List.replicate 16 Contact.opened⟩
  psc := ⟨.loading, none, 0, LoadFault.clear⟩
  loader := Loader.begin
  image := none
  linkA := LinkUnit.formed
  linkB := LinkUnit.formed
  plan := LanePlan.formed
  count := ⟨[], []⟩
  obstructions := []
  heads := []
  store := ⟨[], []⟩
  inputs := []
  chain := Chain.silent

end Sys2Proof.Machine
end

