-- ==== Sys2Proof/Machine/Bytes.lean ====
section
/-! DEFINITION. Byte order, CRCs and the code sets of chapter 10. -/

namespace Sys2Proof.Machine

open Sys2Proof

/-! ### Byte order: high byte first (chapter 10) -/

/-- A number below 256 as a byte. -/
def byte (n : Nat) : Byte := BitVec.ofNat 8 n

/-- A two-byte number, high byte first. -/
def be16 (n : Nat) : List Byte := [byte (n / 256), byte n]

/-- A four-byte number, high byte first. -/
def be32 (n : Nat) : List Byte :=
  [byte (n / 16777216), byte (n / 65536), byte (n / 256), byte n]

/-- The number a list of bytes forms, high byte first. -/
def ofBE (bs : List Byte) : Nat := bs.foldl (fun acc b => acc * 256 + b.toNat) 0

/-- A flag as 0 or 1. -/
def bit01 (b : Bool) : Nat := if b then 1 else 0

/-! ### CRCs -/

/-- One bit of the CRC-16 with polynomial 0x1021, not reflected (R135, R177). -/
def crc16Bit (c : BitVec 16) : BitVec 16 :=
  if c.msb then (c <<< 1) ^^^ 0x1021#16 else c <<< 1

/-- One byte of the CRC-16. -/
def crc16Byte (c : BitVec 16) (b : Byte) : BitVec 16 :=
  Nat.repeat crc16Bit 8 (c ^^^ (b.zeroExtend 16 <<< 8))

/-- The CRC-16 of links and chain: initial value 0xFFFF, no final inversion (R135, R177). -/
def crc16 (bs : List Byte) : BitVec 16 := bs.foldl crc16Byte 0xFFFF#16

/-- One bit of the CRC-32 with polynomial 0xEDB88320, reflected (R163). -/
def crc32Bit (c : BitVec 32) : BitVec 32 :=
  if c.getLsbD 0 then (c >>> 1) ^^^ 0xEDB88320#32 else c >>> 1

/-- One byte of the CRC-32. -/
def crc32Byte (c : BitVec 32) (b : Byte) : BitVec 32 :=
  Nat.repeat crc32Bit 8 (c ^^^ b.zeroExtend 32)

/-- The image CRC-32: initial value 0xFFFFFFFF, final inversion (R163). -/
def crc32 (bs : List Byte) : BitVec 32 := ~~~ (bs.foldl crc32Byte 0xFFFFFFFF#32)

/-- A chain block: its bytes and their CRC-16, high byte first (R135). -/
def chainBlock (bs : List Byte) : List Byte := bs ++ be16 (crc16 bs).toNat

/-- The bytes of a chain block less its CRC, where the CRC is correct (R143). -/
def chainBody (bs : List Byte) : Option (List Byte) :=
  let body := bs.take (bs.length - 2)
  if 2 ≤ bs.length ∧ bs.drop (bs.length - 2) = be16 (crc16 body).toNat then some body else none

/-- A link frame on the wire: start byte, length, payload and CRC (R177). -/
def linkFrame (payload : List Byte) : List Byte :=
  let covered := byte payload.length :: payload
  0xA5#8 :: covered ++ be16 (crc16 covered).toNat

/-! ### Serial lines (R135, R176) -/

/-- Level of a transmit line between bytes: high (R176). -/
def idleLevel : Bool := true

/-- Levels of a byte on a serial line, a bit time each: start bit low, eight data bits least significant first, no parity
bit, stop bit high (R135, R176). -/
def serialBits (b : Byte) : List Bool := false :: (List.range 8).map (fun i => b.getLsbD i) ++ [true]

/-- The byte that eight data bits form, least significant first. -/
def ofBits (bits : List Bool) : Byte := byte (bits.foldr (fun x n => 2 * n + bit01 x) 0)

/-- Ten bit times from the start bit on, as the receiver judges them: a byte, or a framing error where the stop bit is
low (R176). -/
def readSerial (bits : List Bool) : Option LineEvent :=
  match bits with
  | false :: rest =>
    if rest.length = 9 then
      if rest.getD 8 false then some (.byte (ofBits (rest.take 8))) else some .framingError
    else none
  | _ => none

/-- What passes on one chain channel while the part drives it: a level of its driver enable, or a byte sent (R135). -/
inductive ChannelEvent
  | driverEnable (high : Bool)
  | byte (b : Byte)
  deriving DecidableEq, Repr

/-- One transmission on a chain channel: the driver enable high from the first byte of a block to its last, and low
again; no block, no transmission (R135). -/
def transmission (block : List Byte) : List ChannelEvent :=
  if block = [] then [] else [.driverEnable true] ++ block.map .byte ++ [.driverEnable false]

/-! ### Code sets -/

/-- Direction or face; 0 none. -/
def codeDir : Option Dir → Nat
  | none => 0
  | some .rising => 1
  | some .falling => 2

/-- Target. -/
def codeTarget : Target → Nat
  | .opened .rising => 1
  | .opened .falling => 2
  | .closed => 3

/-- A target byte read; the codes not listed name no target (R88 check 4). -/
def targetOf (n : Nat) : Option Target :=
  match n with
  | 1 => some (.opened .rising)
  | 2 => some (.opened .falling)
  | 3 => some .closed
  | _ => none

/-- Reported aspect. -/
def codeAspect : Aspect → Nat
  | .dark => 0
  | .arrow => 1
  | .cross => 2
  | .divertLo => 3
  | .divertHi => 4
  | .unknown => 7

/-- Aspect codes a chain reply may carry (R143). -/
def aspectOf (n : Nat) : Option Aspect :=
  match n with
  | 0 => some .dark
  | 1 => some .arrow
  | 2 => some .cross
  | 3 => some .divertLo
  | 4 => some .divertHi
  | _ => none

/-- An intended aspect as the aspect a head is to show. -/
def Intended.aspect : Intended → Aspect
  | .arrow => .arrow
  | .cross => .cross
  | .divertLo => .divertLo
  | .divertHi => .divertHi

/-- Lane phase. -/
def codePhase : Phase → Nat
  | .closed => 0
  | .opened => 1
  | .closing => 2
  | .clearing => 3
  | .cleared => 4
  | .openingBody => 5
  | .openingEntry => 6

/-- Lane kind. -/
def codeKind : LaneKind → Nat
  | .fixedRising => 0
  | .fixedFalling => 1
  | .tidal => 2

/-- Escape preference. -/
def codeEscape : Escape → Nat
  | .lo => 0
  | .hi => 1

/-- Section state. -/
def codeSection : SectionState → Nat
  | .clear => 0
  | .occupied => 1
  | .disturbed => 2
  | .prepared _ => 3
  | .restorePending _ _ _ => 4

/-- Decode phase. -/
def codeDecode : Decode → Nat
  | .idle => 0
  | .r1 => 1
  | .r2 => 2
  | .r3 => 3
  | .f1 => 4
  | .f2 => 5
  | .f3 => 6

/-- Head proof state. -/
def codeProof : Proof → Nat
  | .unknown => 0
  | .awaiting _ => 1
  | .proven => 2
  | .failed _ => 3

/-- Fail cause of a proof state; 0 none. -/
def codeCause : Proof → Nat
  | .failed .lamp => 1
  | .failed .mismatch => 2
  | .failed (.probe _) => 3
  | .failed .node => 4
  | _ => 0

/-- Probe result. -/
def codeProbe : Probe → Nat
  | .unset => 0
  | .pass => 1
  | .fail => 2

/-- Node health. -/
def codeHealth : Health → Nat
  | .integrating => 0
  | .good => 1
  | .suspect => 2
  | .lost => 3

/-- Node kind. -/
def codeNodeKind : NodeKind → Nat
  | .gantry => 1
  | .station => 2

/-- Module status; 0xFF none. -/
def codeStatus : Option ModStatus → Nat
  | some .ready => 0
  | some .busy => 1
  | some .fallback => 2
  | some .fault => 3
  | none => 0xFF

/-- A status byte read. -/
def statusOf (n : Nat) : Option ModStatus :=
  match n with
  | 0 => some .ready
  | 1 => some .busy
  | 2 => some .fallback
  | 3 => some .fault
  | _ => none

/-- Part state. -/
def codePart : PartState → Nat
  | .loading => 0
  | .fault => 1
  | .startup => 2
  | .run => 3
  | .config => 4

/-- Startup kind; 0 none. -/
def codeStartup : Option StartupKind → Nat
  | none => 0
  | some .fresh => 1
  | some .restarted => 2

/-- Link, origin or requester; 0 none. -/
def codeLink : Option Link → Nat
  | none => 0
  | some .a => 1
  | some .b => 2

/-- Context state. -/
def codeCtx : Ctx → Nat
  | .free => 0
  | .active _ => 1
  | .done _ _ => 2

/-- Wait reason. -/
def codeWait : WaitReason → Nat
  | .unset => 0
  | .protection => 1
  | .occupied => 2
  | .disturbed => 3
  | .hold => 4
  | .inhibit => 5
  | .opposing => 6
  | .pattern => 7
  | .settling => 8

/-- Outcome; 0 none. -/
def codeOutcome : Option CtxOutcome → Nat
  | none => 0
  | some .completed => 1
  | some .cancelled => 2
  | some .abortedRestart => 3
  | some .abortedConflict => 4

/-- Service operation. -/
def codeOperation : Operation → Nat
  | .identify => 1
  | .probeNow => 2
  | .lampDetail => 3
  | .loopDetail => 4
  | .nodeReset => 5

/-- A service operation byte read (R150). -/
def operationOf (n : Nat) : Option Operation :=
  match n with
  | 1 => some .identify
  | 2 => some .probeNow
  | 3 => some .lampDetail
  | 4 => some .loopDetail
  | 5 => some .nodeReset
  | _ => none

/-- Service outcome. -/
def codeSvcOutcome : SvcOutcome → Nat
  | .done => 1
  | .noReply => 2
  | .disagree => 3

/-- Frame kind. -/
def codeFrameKind : FrameKind → Nat
  | .hold => 1
  | .drive => 2
  | .closedown => 3

/-- Input function; the target is a byte of its own. -/
def codeFunction : InputFunction → Nat
  | .unrouted => 0
  | .zoneStop _ => 1
  | .portalStop _ => 2
  | .sequenceHold => 3
  | .lockLink .a => 4
  | .lockLink .b => 5

/-- Target byte of an input: zone or portal number, 0 for the other functions. -/
def codeInputTarget : InputFunction → Nat
  | .zoneStop z => z
  | .portalStop p => p
  | _ => 0

/-- Polarity. -/
def codePolarity : Polarity → Nat
  | .activeOpen => 0
  | .activeClosed => 1

/-- Filter time. -/
def codeFilter : FilterTime → Nat
  | .ms10 => 0
  | .ms50 => 1
  | .ms200 => 2
  | .ms1000 => 3

/-- Load fault code. -/
def codeLoad : LoadCode → Nat
  | .unset => 0
  | .noAck => 1
  | .format => 2
  | .crc => 3
  | .range => 4
  | .order => 5
  | .pattern => 6

/-- Image table. -/
def codeTable : ImageTable → Nat
  | .unset => 0
  | .bore => 1
  | .lanes => 2
  | .gantries => 3
  | .stations => 4
  | .zones => 5
  | .inputs => 6

/-- A number that may be absent, with 0xFF for none. -/
def codeOr255 : Option Nat → Nat
  | some n => n
  | none => 0xFF

/-- Status codes of a reply (chapter 10). -/
inductive Status
  | ok
  | format
  | range
  | state
  | locked
  | busy
  | pattern
  | noContext
  | inhibited
  | noChange
  | tooLate
  | sameLink
  | inputActive
  | full
  | notFound
  | faultActive
  | notTidal
  deriving DecidableEq, Repr

/-- The status byte of a reply. -/
def codeReplyStatus : Status → Nat
  | .ok => 0
  | .format => 1
  | .range => 2
  | .state => 3
  | .locked => 4
  | .busy => 5
  | .pattern => 6
  | .noContext => 7
  | .inhibited => 8
  | .noChange => 9
  | .tooLate => 10
  | .sameLink => 11
  | .inputActive => 12
  | .full => 13
  | .notFound => 14
  | .faultActive => 15
  | .notTidal => 16

end Sys2Proof.Machine
end

