-- ==== Sys2Proof/Machine/BoreModel.lean ====
section
/-! DEFINITION. The bore model derived from the image: travel coordinate, heads of a lane and face, entry and approach
heads, sections, patterns (chapter 01) and the derived constants of R166. -/

namespace Sys2Proof.Machine

open Sys2Proof

/-- The other direction or face. -/
def otherDir : Dir → Dir
  | .rising => .falling
  | .falling => .rising

/-- Travel coordinate t of a chainage in a direction (R1). -/
def travel (d : Dir) (c : Nat) : Nat :=
  match d with
  | .rising => c
  | .falling => 8000 - c

/-- Upstream end of a chainage span in a direction (R1). -/
def spanStart (d : Dir) (c1 c2 : Nat) : Nat :=
  match d with
  | .rising => c1
  | .falling => 8000 - c2

/-- Downstream end of a chainage span in a direction (R1). -/
def spanEnd (d : Dir) (c1 c2 : Nat) : Nat :=
  match d with
  | .rising => c2
  | .falling => 8000 - c1

/-- Lane count n (R2). -/
def laneCount (b : Bore) : Nat := b.lanes.length

/-- Gantry count (R4). -/
def gantryCount (b : Bore) : Nat := b.gantries.length

/-- Station count (R8). -/
def stationCount (b : Bore) : Nat := b.stations.length

/-- Zone count (R10). -/
def zoneCount (b : Bore) : Nat := b.zones.length

/-- Node count, gantries first (R136, R166). -/
def nodeCount (b : Bore) : Nat := gantryCount b + stationCount b

/-- Number of sections of each lane (R9, R166). -/
def sectionCount (b : Bore) : Nat := stationCount b - 1

/-- An element of a list whose elements are numbered from 1. -/
def from1 {α : Type} (l : List α) (n : Nat) : Option α :=
  if n = 0 then none else l[n - 1]?

/-- Whether a gantry carries a head of a lane and face (R5, presence word of chapter 10). -/
def carries (g : GantryCfg) (lane : Nat) (d : Dir) : Bool :=
  decide (1 ≤ lane) && decide (lane ≤ 6) &&
    match d with
    | .rising => g.presence.getLsbD (lane - 1)
    | .falling => g.presence.getLsbD (lane + 7)

/-- Whether gantry `g` of the bore carries a head of a lane and face. -/
def hasHead (b : Bore) (g lane : Nat) (d : Dir) : Bool :=
  match from1 b.gantries g with
  | some cfg => carries cfg lane d
  | none => false

/-- t of a gantry in a face (R1, R5). -/
def gantryT (b : Bore) (d : Dir) (g : Nat) : Nat :=
  match from1 b.gantries g with
  | some cfg => travel d cfg.chainage
  | none => 0

/-- Role test for a gantry number. -/
def hasRole (b : Bore) (r : Role) (g : Nat) : Bool :=
  match from1 b.gantries g with
  | some cfg => cfg.role = r
  | none => false

/-- Gantry numbers in travel order: rising numbers for RISING, the reverse for FALLING (R1, R4). -/
def gantriesInOrder (b : Bore) (d : Dir) : List Nat :=
  let up := (List.range (gantryCount b)).map (· + 1)
  match d with
  | .rising => up
  | .falling => up.reverse

/-- Gantries carrying the present heads of a lane and face, in travel order (R5). -/
def faceHeads (b : Bore) (lane : Nat) (d : Dir) : List Nat :=
  (gantriesInOrder b d).filter (fun g => hasHead b g lane d)

/-- Role of the approach gantries of a direction's upstream portal (R7). -/
def approachRole : Dir → Role
  | .rising => .approach1
  | .falling => .approach2

/-- Approach heads of a lane for a face, in travel order (R7). -/
def approachHeads (b : Bore) (lane : Nat) (d : Dir) : List Nat :=
  (faceHeads b lane d).filter (hasRole b (approachRole d))

/-- Entry head of a lane for a face: the first BODY head in travel order, or else the last approach head (R6). -/
def entryHead (b : Bore) (lane : Nat) (d : Dir) : Option Nat :=
  match (faceHeads b lane d).find? (hasRole b .body) with
  | some g => some g
  | none => (approachHeads b lane d).getLast?

/-- t_e, the t of the entry head (R7). -/
def entryT (b : Bore) (lane : Nat) (d : Dir) : Option Nat :=
  (entryHead b lane d).map (gantryT b d)

/-- Heads at downstream positions of a lane for a face (R7). -/
def downstreamHeads (b : Bore) (lane : Nat) (d : Dir) : List Nat :=
  match entryT b lane d with
  | some te => (faceHeads b lane d).filter (fun g => decide (te < gantryT b d g))
  | none => []

/-- Entry head and approach heads of a lane for a face, each once (R7, R101). -/
def entryAndApproachHeads (b : Bore) (lane : Nat) (d : Dir) : List Nat :=
  (faceHeads b lane d).filter
    (fun g => decide (entryHead b lane d = some g) || decide (g ∈ approachHeads b lane d))

/-- Own direction of a lane kind (R2). -/
def ownDir : LaneKind → Option Dir
  | .fixedRising => some .rising
  | .fixedFalling => some .falling
  | .tidal => none

/-! ### Sections and derived constants -/

/-- Chainage of a station. -/
def stationC (b : Bore) (k : Nat) : Nat :=
  match b.stations[k]? with
  | some st => st.chainage
  | none => 0

/-- Length of section s of every lane (R9). -/
def sectionLength (b : Bore) (s : Nat) : Nat := stationC b (s + 1) - stationC b s

/-- Capacity of section s: length divided by vehicle pitch, rounded down (R27). -/
def sectionCapacity (b : Bore) (s : Nat) : Nat := sectionLength b s / b.pitch

/-- Longest section length (R92). -/
def longestSection (b : Bore) : Nat :=
  ((List.range (sectionCount b)).map (sectionLength b)).foldl max 0

/-- Computed clear hold in ms: the smallest multiple of 100 ms at or above 3600 · Lmax / v (R92). -/
def computedClearHold (b : Bore) : Nat :=
  (36 * longestSection b + (b.crawl - 1)) / b.crawl * 100

/-- Clear hold in ms: the computed clear hold, not below the minimum hold, not above 600 000 ms (R92). -/
def clearHold (b : Bore) : Nat :=
  if computedClearHold b < b.minHold * 1000 then b.minHold * 1000
  else if 600000 < computedClearHold b then 600000
  else computedClearHold b

/-! ### The pattern rule -/

/-- A pattern: RISING, FALLING or none for lanes 1 to n in order (R12). -/
abbrev Pattern := List (Option Dir)

/-- Whether lane i (counted from 0) of a pattern is assigned a direction. -/
def assigned (p : Pattern) (i : Nat) (d : Dir) : Bool := decide (p[i]? = some (some d))

/-- R12's test of one rising lane i against one falling lane j. -/
def pairLegal (b : Bore) (i j : Nat) : Bool :=
  (match b.risingSide with
    | .lo => decide (i < j)
    | .hi => decide (j < i)) &&
  (!b.bufferRequired || decide (i + 1 ≠ j ∧ j + 1 ≠ i))

/-- Whether a pattern is legal (R12). -/
def legalPattern (b : Bore) (p : Pattern) : Bool :=
  (List.range p.length).all fun i => (List.range p.length).all fun j =>
    !(assigned p i .rising && assigned p j .falling) || pairLegal b i j

/-- Pattern of the fixed lanes at their own directions, the tidal lanes none (R12, R164). -/
def fixedPattern (b : Bore) : Pattern := b.lanes.map (fun l => ownDir l.kind)

/-! ### Inputs -/

/-- Filter time in ms (R126). -/
def filterMs : FilterTime → Nat
  | .ms10 => 10
  | .ms50 => 50
  | .ms200 => 200
  | .ms1000 => 1000

/-- Whether a contact stands at its input's active level (R127). -/
def atActiveLevel (p : Polarity) (c : Contact) : Bool :=
  match p, c with
  | .activeClosed, .closed => true
  | .activeOpen, .opened => true
  | _, _ => false

/-- Whether the gantry is probed in a frame of a kind and cycle number (R77, R139). -/
def probeDue (g : GantryCfg) (kind : FrameKind) (cycle : Nat) : Bool :=
  match kind with
  | .hold => false
  | _ => decide (cycle % 2 ^ g.probeK = g.probeO)

end Sys2Proof.Machine
end

