-- ==== Sys2Proof/Machine/Flags.lean ====
section
/-! DEFINITION. The flags of the accrued change vector and how a report sets them (R184), the levels of the output lines
that follow the state (R174, R186, R135, R161), and the lock states (R129). -/

namespace Sys2Proof.Machine

open Sys2Proof

/-! ### Flag numbers, in the group order of SUMMARY (chapter 10) -/

/-- PART. -/
def flagPart : Nat := 0
/-- LANES, lane 1 to 6. -/
def flagLane (lane : Nat) : Nat := lane
/-- SECTIONS, lane 1 to 6. -/
def flagSections (lane : Nat) : Nat := 6 + lane
/-- CONTEXTS, context 0 to 5. -/
def flagContext (k : Nat) : Nat := 13 + k
/-- GANTRIES, gantry 1 to 48. -/
def flagGantry (g : Nat) : Nat := 18 + g
/-- NODES, node 1 to 68. -/
def flagNode (n : Nat) : Nat := 66 + n
/-- CLOSURES. -/
def flagClosures : Nat := 135
/-- OVERLAYS. -/
def flagOverlays : Nat := 136
/-- INPUTS, input 0 to 15. -/
def flagInput (i : Nat) : Nat := 137 + i
/-- SERVICE. -/
def flagService : Nat := 153

/-! ### Link Units -/

/-- The Link Unit of a link. -/
def State.unit (s : State) : Link → LinkUnit
  | .a => s.linkA
  | .b => s.linkB

/-- Replace the Link Unit of a link. -/
def State.setUnit (s : State) (l : Link) (u : LinkUnit) : State :=
  match l with
  | .a => { s with linkA := u }
  | .b => { s with linkB := u }

/-- The other link. -/
def otherLink : Link → Link
  | .a => .b
  | .b => .a

/-- Set one flag of a unit's vector; a set flag stays set (R184). -/
def LinkUnit.mark (u : LinkUnit) (i : Nat) : LinkUnit :=
  { u with vector := u.vector ||| (1#154 <<< i) }

/-- A report to both Link Units (R184). -/
def State.report (s : State) (i : Nat) : State :=
  { s with linkA := s.linkA.mark i, linkB := s.linkB.mark i }

/-- A report made only where something changed. -/
def State.reportIf (s : State) (changed : Bool) (i : Nat) : State :=
  if changed then s.report i else s

/-- A report to one Link Unit alone: SERVICE (R152, R184). -/
def State.reportTo (s : State) (l : Link) (i : Nat) : State :=
  s.setUnit l ((s.unit l).mark i)

/-- Reports of several flags. -/
def State.reportAll (s : State) (is : List Nat) : State := is.foldl State.report s

/-! ### Levels that follow the state -/

/-- ATTN line of a link: asserted while the vector holds a set flag or RESET_N is low (R186). -/
def attn (s : State) (l : Link) : Bool :=
  s.pins.resetLow || decide ((s.unit l).vector ≠ 0#154)

/-- Whether a lane record asserts PROTECT_FAIL in RUN and CONFIG (R16, R174). -/
def laneUnprotected (r : LaneRecord) : Bool := r.unprotRising || r.unprotFalling || r.conflict

/-- PROTECT_FAIL (R174). -/
def protectFail (s : State) : Bool :=
  s.pins.resetLow ||
    match s.psc.part with
    | .loading => true
    | .fault => true
    | .startup => true
    | .run => s.plan.lanes.any laneUnprotected
    | .config => s.plan.lanes.any laneUnprotected

/-- Whether the chain polls: STARTUP, RUN and CONFIG; it is silent otherwise (R135). -/
def polls (s : State) : Bool :=
  !s.pins.resetLow &&
    match s.psc.part with
    | .loading => false
    | .fault => false
    | _ => true

/-- How the part drives one line of the configuration bus: low, not at all, or from bit to bit as the transaction under
way requires, whose events stand in the loader's `bus` (R161, R162). -/
inductive LineDrive
  | low
  | released
  | transacting
  deriving DecidableEq, Repr

/-- Drive of the two lines of the configuration bus. -/
structure BusDrive where
  scl : LineDrive
  sda : LineDrive
  deriving DecidableEq, Repr

/-- Drive of CFG_SCL and CFG_SDA (R161). In LOADING both move while the loader reads; that both are released while an
attempt waits for an idle bus or for its retry is read from R162, which has the part wait for both to be high (log 41).
The spec gives no drive while RESET_N is low (log 26). -/
def cfgBus (s : State) : Option BusDrive :=
  if s.pins.resetLow then none
  else
    match s.psc.part with
    | .loading => some (if s.loader.phase = .reading then ⟨.transacting, .transacting⟩ else ⟨.released, .released⟩)
    | .startup => some ⟨.low, .released⟩
    | .run => some ⟨.low, .released⟩
    | .config => some ⟨.released, .released⟩
    | .fault => some ⟨.released, .released⟩

/-- Lock state of a link: locked while an input routed to its lock is active (R129). -/
def locked (s : State) (l : Link) : Bool :=
  s.inputs.any fun r => r.active && decide (r.cfg.function = .lockLink l)

end Sys2Proof.Machine
end

