-- ==== Sys2Proof/Machine/Ops.lean ====
section
/-! DEFINITION. Named reads and writes of the records. A write that changes what the spec reports sets the flag of its
group in both vectors (R15, R16, R33, R62, R80, R111, R148, R184), so that no meaning can forget it. -/

namespace Sys2Proof.Machine

open Sys2Proof

/-! ### Part state -/

/-- RUN or CONFIG: the states in which the engine computes and proof transitions are made (R44, R69). -/
def working (s : State) : Bool := decide (s.psc.part = .run) || decide (s.psc.part = .config)

/-- Change the part state, recorded in PART (R159). -/
def setPart (p : PartState) (s : State) : State :=
  let s' := { s with psc := { s.psc with part := p, startupKind := none, startupFrames := 0 } }
  s'.reportIf (decide (s.psc.part ≠ p)) flagPart

/-! ### Lane records -/

/-- Record of a lane. -/
def lane? (s : State) (lane : Nat) : Option LaneRecord := from1 s.plan.lanes lane

/-- What of a lane record the links hear of: phase, direction, context and flags (R15, R16, R111). -/
def laneReported (r : LaneRecord) : Phase × Option Dir × Option Nat × Bool × Bool × Bool × Bool :=
  (r.phase, r.direction, r.context, r.overdue, r.unprotRising, r.unprotFalling, r.conflict)

/-- What of a lane record the engine hears of (R15, R44). -/
def laneHanded (r : LaneRecord) : Phase × Option Dir × Option Nat := (r.phase, r.direction, r.context)

/-- Apply a change to a lane's record, recorded in LANES where a reported field changed. -/
def modifyLane (lane : Nat) (f : LaneRecord → LaneRecord) (s : State) : State :=
  match lane? s lane with
  | none => s
  | some r =>
    let s' := { s with plan := { s.plan with lanes := s.plan.lanes.set (lane - 1) (f r) } }
    s'.reportIf (decide (laneReported (f r) ≠ laneReported r)) (flagLane lane)

/-- A lane record out of CLEARING: timer stopped with 0 remaining, no clearing time, OVERDUE clear (R16, R17). -/
def LaneRecord.leaveClearing (r : LaneRecord) : LaneRecord :=
  { r with overdue := false, holdRunning := false, holdRemaining := 0, clearingTime := none, holdMs := 0, clearMs := 0 }

/-- A lane record in a settled phase, OPEN in a direction or CLOSED, in no context. -/
def LaneRecord.settleAs (d : Option Dir) (r : LaneRecord) : LaneRecord :=
  { r.leaveClearing with
    phase := (match d with
      | some _ => .opened
      | none => .closed),
    direction := d, context := none }

/-- The hold timer started at the full clear hold, running (R17, R94). -/
def LaneRecord.restartHold (clear : Nat) (r : LaneRecord) : LaneRecord :=
  { r with holdRunning := true, holdRemaining := clear, holdMs := 0 }

/-! ### Change contexts -/

/-- A context by number. -/
def ctx? (s : State) (k : Nat) : Option Ctx := s.plan.contexts[k]?

/-- Put a context, recorded in CONTEXTS where any of its fields changed (R111). -/
def putCtx (k : Nat) (c : Ctx) (s : State) : State :=
  let s' := { s with plan := { s.plan with contexts := s.plan.contexts.set k c } }
  s'.reportIf (decide (ctx? s k ≠ some c)) (flagContext k)

/-- Apply a change to the body of an ACTIVE context. -/
def modifyActive (k : Nat) (f : CtxBody → CtxBody) (s : State) : State :=
  match ctx? s k with
  | some (.active body) => putCtx k (.active (f body)) s
  | _ => s

/-- Apply a change to the held entry of a lane. -/
def CtxBody.onHeld (lane : Nat) (f : CtxEntry → CtxEntry) (body : CtxBody) : CtxBody :=
  { body with
    entries := body.entries.map (fun e => if e.lane = lane ∧ e.held = true then f e else e) }

/-- Release an entry (R86). -/
def CtxEntry.release (e : CtxEntry) : CtxEntry := { e with held := false }

/-- The entries of a context that are held. -/
def CtxBody.heldEntries (body : CtxBody) : List CtxEntry := body.entries.filter (·.held)

/-- The body of a context that ends: every entry released, wait reason NONE (R99, R101, R104, R110, R114). -/
def CtxBody.ended (body : CtxBody) : CtxBody :=
  { body with entries := body.entries.map CtxEntry.release, wait := .unset }

/-! ### Inhibit and hold -/

/-- Write the reversal inhibit; a change is recorded in PART (R107). -/
def setInhibit (v : Bool) (s : State) : State :=
  let s' := { s with plan := { s.plan with inhibit := v } }
  s'.reportIf (decide (s.plan.inhibit ≠ v)) flagPart

/-- Write the hold origin set; a change is recorded in PART (R105). -/
def setHold (h : HoldSet) (s : State) : State :=
  let s' := { s with plan := { s.plan with hold := h } }
  s'.reportIf (decide (s.plan.hold ≠ h)) flagPart

/-- The hold is active while the set holds any origin (R105). -/
def HoldSet.active (h : HoldSet) : Bool := h.linkA || h.linkB || !h.inputs.isEmpty

/-- Insert a number into a list in rising order, once. -/
def insertSorted (n : Nat) : List Nat → List Nat
  | [] => [n]
  | m :: ms => if n < m then n :: m :: ms else if n = m then m :: ms else m :: insertSorted n ms

/-- Add or remove an input origin of the hold (R105, R130). -/
def HoldSet.setInput (i : Nat) (present : Bool) (h : HoldSet) : HoldSet :=
  { h with inputs := if present then insertSorted i h.inputs else h.inputs.filter (fun j => decide (j ≠ i)) }

/-- Add a link origin of the hold (R105). -/
def HoldSet.addLink (l : Link) (h : HoldSet) : HoldSet :=
  match l with
  | .a => { h with linkA := true }
  | .b => { h with linkB := true }

/-! ### Sections and crossing points -/

/-- Place of section (L, s) in the section list: by lane, then by index (R9). -/
def sectionPlace (b : Bore) (lane index : Nat) : Nat := (lane - 1) * sectionCount b + index

/-- Section record (L, s). -/
def sectionAt? (s : State) (b : Bore) (lane index : Nat) : Option SectionRecord :=
  if 1 ≤ lane ∧ lane ≤ laneCount b ∧ index < sectionCount b then
    s.count.sections[sectionPlace b lane index]?
  else none

/-- Whether two section states are the same state, whatever marks they carry (R33). -/
def sameSectionState (x y : SectionState) : Bool := decide (codeSection x = codeSection y)

/-- Apply a change to a section record, recorded in SECTIONS where its state changed (R33). -/
def modifySection (b : Bore) (lane index : Nat) (f : SectionRecord → SectionRecord) (s : State) : State :=
  match sectionAt? s b lane index with
  | none => s
  | some sec =>
    let s' :=
      { s with count := { s.count with sections := s.count.sections.set (sectionPlace b lane index) (f sec) } }
    s'.reportIf (!sameSectionState (f sec).state sec.state) (flagSections lane)

/-- Sections of a lane in index order. -/
def laneSections (s : State) (b : Bore) (lane : Nat) : List SectionRecord :=
  (List.range (sectionCount b)).filterMap (sectionAt? s b lane)

/-- Place of crossing point (k, L): by station, then by lane (R8). -/
def crossingPlace (b : Bore) (station lane : Nat) : Nat := station * laneCount b + (lane - 1)

/-- Crossing-point record (k, L). -/
def crossing? (s : State) (b : Bore) (station lane : Nat) : Option Crossing :=
  if 1 ≤ lane ∧ lane ≤ laneCount b ∧ station < stationCount b then
    s.count.crossings[crossingPlace b station lane]?
  else none

/-- Write a crossing-point record; no group records it (R25). -/
def putCrossing (b : Bore) (station lane : Nat) (c : Crossing) (s : State) : State :=
  { s with count := { s.count with crossings := s.count.crossings.set (crossingPlace b station lane) c } }

/-- Whether crossing point (k, L) is FAULTY. -/
def crossingFaulty (s : State) (b : Bore) (station lane : Nat) : Bool :=
  match crossing? s b station lane with
  | some c => c.faulty
  | none => false

/-! ### Head records -/

/-- The head record of a gantry, lane and face. -/
def head? (s : State) (g lane : Nat) (d : Dir) : Option HeadRecord :=
  s.heads.find? (fun h => decide (h.gantry = g) && decide (h.lane = lane) && decide (h.face = d))

/-- FAILED with any cause. -/
def Proof.isFailed : Proof → Bool
  | .failed _ => true
  | _ => false

/-- PROVEN or FAILED: what the opening stages and lead heads wait on (R91, R100, R101). -/
def Proof.isSettled : Proof → Bool
  | .failed _ => true
  | .proven => true
  | _ => false

/-- Whether two proof states are the same state with the same fail cause (R80). -/
def sameProof (x y : Proof) : Bool :=
  decide (codeProof x = codeProof y) && decide (codeCause x = codeCause y)

/-- Head position 0 to 11 of a lane and face (chapter 10). -/
def headPosition (lane : Nat) (d : Dir) : Nat :=
  match d with
  | .rising => lane - 1
  | .falling => lane + 5

/-- Gantries whose heads `f` gives a changed proof state or fail cause (R80). -/
def changedGantries (f : HeadRecord → HeadRecord) (hs : List HeadRecord) : List Nat :=
  (hs.filter (fun h => !sameProof (f h).proof h.proof)).map (·.gantry)

/-- Apply a change to every head record, each change of proof state or cause recorded in GANTRIES (R80). -/
def modifyHeads (f : HeadRecord → HeadRecord) (s : State) : State :=
  { s with heads := s.heads.map f }.reportAll ((changedGantries f s.heads).map flagGantry)

/-- Whether `f` takes a head into or out of FAILED, which the engine hears of (R44, R80). -/
def engineHears (f : HeadRecord → HeadRecord) (hs : List HeadRecord) : Bool :=
  hs.any (fun h => decide ((f h).proof.isFailed ≠ h.proof.isFailed))

/-! ### Node records -/

/-- A node record. -/
def node? (s : State) (n : Nat) : Option NodeRecord := from1 s.chain.nodes n

/-- Write a node record; a change of health or BUSY_EXPIRED is recorded in NODES (R148). -/
def putNode (n : Nat) (r : NodeRecord) (s : State) : State :=
  let s' := { s with chain := { s.chain with nodes := s.chain.nodes.set (n - 1) r } }
  match node? s n with
  | none => s'
  | some old =>
    s'.reportIf (decide (old.health ≠ r.health) || decide (old.busyExpired ≠ r.busyExpired)) (flagNode n)

/-- Whether a node is LOST. -/
def nodeLost (s : State) (n : Nat) : Bool :=
  match node? s n with
  | some r => decide (r.health = .lost)
  | none => false

/-- Whether a node's health is GOOD. -/
def nodeGood (s : State) (n : Nat) : Bool :=
  match node? s n with
  | some r => decide (r.health = .good)
  | none => false

/-! ### Overlays and spans -/

/-- Place of a target in target order: zones 1 to 8, portal 1, portal 2 (R121, R133). -/
def targetRank : OverlayTarget → Nat
  | .zone z => z
  | .portal p => 8 + p

/-- The overlay of a target. -/
def overlay? (s : State) (t : OverlayTarget) : Option Overlay :=
  s.store.overlays.find? (fun o => decide (o.target = t))

/-- Put an overlay in the set in target order, replacing the one of its target. -/
def insertOverlay (o : Overlay) : List Overlay → List Overlay
  | [] => [o]
  | p :: ps =>
    if p.target = o.target then o :: ps
    else if targetRank o.target < targetRank p.target then o :: p :: ps
    else p :: insertOverlay o ps

/-- Write the overlay set; a change is recorded in OVERLAYS (R121). -/
def setOverlays (os : List Overlay) (s : State) : State :=
  let s' := { s with store := { s.store with overlays := os } }
  s'.reportIf (decide (s.store.overlays ≠ os)) flagOverlays

/-- Write a span closure record; creation and removal are recorded in CLOSURES (R118, R119). -/
def setSpan (k : Nat) (sp : Option Span) (s : State) : State :=
  { s with store := { s.store with spans := s.store.spans.set k sp } }.report flagClosures

/-! ### Service results -/

/-- A link's service result record (R152). -/
def result? (s : State) : Link → Option ServiceResult
  | .a => s.chain.resultA
  | .b => s.chain.resultB

/-- Write a link's service result record (R152). -/
def setResult (l : Link) (r : Option ServiceResult) (s : State) : State :=
  match l with
  | .a => { s with chain := { s.chain with resultA := r } }
  | .b => { s with chain := { s.chain with resultB := r } }

end Sys2Proof.Machine
end

