-- ==== Sys2Proof/Machine/Derivation.lean ====
section
/-! DEFINITION. Aspect derivation (chapter 03): obstructions and their protection, classes of positions, intended
aspects, and one computation of the engine with the writes and reports it makes. -/

namespace Sys2Proof.Machine

open Sys2Proof

/-- Class of a position, from strongest to weakest (R57). -/
inductive PosClass
  | blocked
  | lead
  | exit
  | clear
  deriving DecidableEq, Repr

/-- Live face of a lane (R46). -/
def liveFace (r : LaneRecord) : Option Dir :=
  match r.phase with
  | .opened => r.direction
  | .closing => r.direction
  | .clearing => r.direction
  | .openingBody => r.direction
  | .openingEntry => r.direction
  | .closed => none
  | .cleared => none

/-- Whether a head is FAILED, read from the Head Table (R44, R53). -/
def headFailed (heads : List HeadRecord) (g lane : Nat) (d : Dir) : Bool :=
  heads.any fun h =>
    decide (h.gantry = g) && decide (h.lane = lane) && decide (h.face = d) && h.proof.isFailed

/-- Heads of a lane and face at or upstream of t, nearest first: the walk of promotion (R49, R53). -/
def candidates (b : Bore) (lane : Nat) (d : Dir) (t : Nat) : List Nat :=
  ((faceHeads b lane d).filter (fun g => decide (gantryT b d g ≤ t))).reverse

/-- Protecting head in use: the first candidate, or the first upstream of it that is not FAILED (R53). -/
def protectingHead (b : Bore) (heads : List HeadRecord) (lane : Nat) (d : Dir) (t : Nat) : Option Nat :=
  (candidates b lane d t).find? (fun g => !headFailed heads g lane d)

/-- Lead heads of a protecting head at gantry p: the heads in the window, or the next upstream head (R55, R60). -/
def leadHeads (b : Bore) (lane : Nat) (d : Dir) (p : Nat) : List Nat :=
  let tp := gantryT b d p
  let window := (faceHeads b lane d).filter
    (fun g => decide (tp ≤ gantryT b d g + b.leadIn) && decide (gantryT b d g < tp))
  if window.isEmpty then
    (((faceHeads b lane d).filter (fun g => decide (gantryT b d g < tp))).getLast?).toList
  else window

/-- An obstruction whose first candidate is the nearest head at or upstream of `first` and which ends at `endT`. -/
def obstruct (b : Bore) (heads : List HeadRecord) (src : ObstructionSource) (lane : Nat) (d : Dir)
    (first : Option Nat) (endT : Option Nat) : Obstruction :=
  let p := first.bind (protectingHead b heads lane d)
  { source := src, lane := lane, face := d, endT := endT, protecting := p,
    leads := (p.map (leadHeads b lane d)).getD [] }

/-- Whether a lane carries an entry closure (R48). -/
def hasEntryClosure (r : LaneRecord) : Bool := decide (r.phase = .closing) || decide (r.phase = .clearing)

/-- Entry closures of the lanes (R48). -/
def entryClosures (b : Bore) (heads : List HeadRecord) (lanes : List LaneRecord) : List Obstruction :=
  lanes.filterMap fun r =>
    match liveFace r with
    | some d =>
      if hasEntryClosure r then
        some (obstruct b heads .entry r.lane d (entryT b r.lane d) (entryT b r.lane d))
      else none
    | none => none

/-- Live face of a lane by number. -/
def liveFaceOf (lanes : List LaneRecord) (lane : Nat) : Option Dir :=
  (from1 lanes lane).bind liveFace

/-- Acting spans, in record order (R49). -/
def actingSpans (b : Bore) (heads : List HeadRecord) (lanes : List LaneRecord) (spans : List (Option Span)) :
    List Obstruction :=
  (List.range spans.length).filterMap fun k =>
    match spans[k]? with
    | some (some sp) =>
      match liveFaceOf lanes sp.lane with
      | some d =>
        some (obstruct b heads (.span k) sp.lane d (some (spanStart d sp.fromC sp.toC))
          (some (spanEnd d sp.fromC sp.toC)))
      | none => none
    | _ => none

/-- Every obstruction over the inputs (R43, R50). -/
def obstructionsOf (b : Bore) (heads : List HeadRecord) (lanes : List LaneRecord) (spans : List (Option Span)) :
    List Obstruction :=
  entryClosures b heads lanes ++ actingSpans b heads lanes spans

/-- Whether an obstruction blocks position t of its lane and face (R48, R49, R54, R60). -/
def blocks (b : Bore) (o : Obstruction) (t : Nat) : Bool :=
  match o.endT with
  | none => false
  | some e =>
    decide (t ≤ e) &&
      match o.protecting with
      | none => true
      | some p => decide (gantryT b o.face p ≤ t)

/-- Whether an obstruction gives LEAD to position t of its lane and face (R55, R60). -/
def leadsIn (b : Bore) (o : Obstruction) (t : Nat) : Bool :=
  match o.protecting with
  | none => false
  | some p =>
    let tp := gantryT b o.face p
    (decide (tp ≤ t + b.leadIn) && decide (t < tp)) || o.leads.any (fun g => decide (gantryT b o.face g = t))

/-- Whether position t of a lane and face lies in the approach or entry region (R7). -/
def upToEntry (b : Bore) (lane : Nat) (d : Dir) (t : Nat) : Bool :=
  match entryT b lane d with
  | some te => decide (t ≤ te)
  | none => true

/-- Whether an overlay blocks position t of a lane and face (R51, R52). -/
def overlayBlocks (b : Bore) (o : Overlay) (lane : Nat) (d : Dir) (t : Nat) : Bool :=
  match o.target with
  | .zone z =>
    match from1 b.zones z with
    | some cfg => decide (t ≤ spanEnd d cfg.fromC cfg.toC)
    | none => false
  | .portal p =>
    (match d with
      | .rising => decide (p = 1)
      | .falling => decide (p = 2)) && upToEntry b lane d t

/-- Base class of a position on a lane's live face (R47). -/
def baseClass (b : Bore) (r : LaneRecord) (d : Dir) (t : Nat) : PosClass :=
  match r.phase with
  | .opened => .clear
  | .openingEntry => .clear
  | .closing => .exit
  | .clearing => .exit
  | .openingBody => if upToEntry b r.lane d t then .blocked else .exit
  | .closed => .blocked
  | .cleared => .blocked

/-- What the engine computes over (R44), with the obstructions it has formed. -/
structure Derive where
  bore : Bore
  lanes : List LaneRecord
  overlays : List Overlay
  obstructions : List Obstruction

/-- Class of position t of a lane and face: the strongest of all the classes given to it (R46, R57). -/
def classAt (v : Derive) (lane : Nat) (d : Dir) (t : Nat) : PosClass :=
  match from1 v.lanes lane with
  | none => .blocked
  | some r =>
    if liveFace r = some d then
      let mine := v.obstructions.filter (fun o => decide (o.lane = lane) && decide (o.face = d))
      if baseClass v.bore r d t = .blocked ∨ mine.any (fun o => blocks v.bore o t) = true ∨
          v.overlays.any (fun o => overlayBlocks v.bore o lane d t) = true then .blocked
      else if mine.any (fun o => leadsIn v.bore o t) = true then .lead
      else baseClass v.bore r d t
    else .blocked

/-- Aspect of a LEAD position: toward the escape neighbour, or CROSS when there is none (R58, R59). -/
def leadAspect (v : Derive) (lane : Nat) (d : Dir) (t : Nat) : Intended :=
  let lower := decide (2 ≤ lane) && decide (classAt v (lane - 1) d t = .clear)
  let upper := decide (lane + 1 ≤ v.lanes.length) && decide (classAt v (lane + 1) d t = .clear)
  match lower, upper with
  | true, false => .divertLo
  | false, true => .divertHi
  | true, true =>
    match from1 v.lanes lane with
    | some r =>
      match r.escape with
      | .lo => .divertLo
      | .hi => .divertHi
    | none => .cross
  | false, false => .cross

/-- Intended aspect at position t of a lane and face (R58). -/
def aspectAt (v : Derive) (lane : Nat) (d : Dir) (t : Nat) : Intended :=
  match classAt v lane d t with
  | .blocked => .cross
  | .clear => .arrow
  | .exit => .arrow
  | .lead => leadAspect v lane d t

/-- Whether an UNPROTECTED flag of a lane and face stands (R54). -/
def unprotected (obs : List Obstruction) (lane : Nat) (d : Dir) : Bool :=
  obs.any fun o => decide (o.lane = lane) && decide (o.face = d) && decide (o.protecting = none)

/-! ### One computation -/

/-- The engine's view of the state (R44). -/
def deriveView (b : Bore) (s : State) : Derive where
  bore := b
  lanes := s.plan.lanes
  overlays := s.store.overlays
  obstructions := obstructionsOf b s.heads s.plan.lanes s.store.spans

/-- A new intended aspect written into a head record: its proof begins again, unless its node is LOST (R70). -/
def writeIntended (lost : Bool) (a : Intended) (h : HeadRecord) : HeadRecord :=
  if lost then { h with intended := a, counter := 0, wrongRun := 0 }
  else { h with intended := a, proof := .awaiting .unset, counter := 0, wrongRun := 0 }

/-- The aspect the view gives a head's position (R58). -/
def derivedAspect (v : Derive) (h : HeadRecord) : Intended :=
  aspectAt v h.lane h.face (gantryT v.bore h.face h.gantry)

/-- A head record after the writes of one computation: written only where its intended aspect differs (R45). -/
def rewriteHead (v : Derive) (s : State) (h : HeadRecord) : HeadRecord :=
  if derivedAspect v h = h.intended then h
  else writeIntended (nodeLost s h.gantry) (derivedAspect v h) h

/-- Gantries with a head that the computation writes (R62). -/
def writtenGantries (v : Derive) (hs : List HeadRecord) : List Nat :=
  (hs.filter (fun h => decide (derivedAspect v h ≠ h.intended))).map (·.gantry)

/-- What the links hear of an entry closure: its face and protecting head in use (R62). -/
def entryView (obs : List Obstruction) (lane : Nat) : Option (Dir × Option Nat) :=
  (obs.find? (fun o => decide (o.source = .entry) && decide (o.lane = lane))).map
    (fun o => (o.face, o.protecting))

/-- What the links hear of a span: acting face and protecting head in use, or dormant (R62). -/
def spanView (obs : List Obstruction) (k : Nat) : Option (Dir × Option Nat) :=
  (obs.find? (fun o => decide (o.source = .span k))).map (fun o => (o.face, o.protecting))

/-- Write the two UNPROTECTED flags of every lane (R45, R54). -/
def writeFlags (obs : List Obstruction) (s : State) : State :=
  (List.range s.plan.lanes.length).foldl
    (fun s i => modifyLane (i + 1)
      (fun r => { r with
        unprotRising := unprotected obs (i + 1) .rising
        unprotFalling := unprotected obs (i + 1) .falling }) s) s

/-- Report changes of protection between two results (R62). -/
def reportProtection (old new : List Obstruction) (s : State) : State :=
  let lanes := ((List.range s.plan.lanes.length).map (· + 1)).filter
    (fun l => decide (entryView old l ≠ entryView new l))
  let spans := (List.range s.store.spans.length).any (fun k => decide (spanView old k ≠ spanView new k))
  (s.reportAll (lanes.map flagLane)).reportIf spans flagClosures

/-- One computation of the engine in RUN or CONFIG: intended aspects, obstructions and flags (R44, R45). The second
component says whether a write took a head out of FAILED, which calls for another computation (R70). -/
def computeOnce (s : State) : State × Bool :=
  match s.image with
  | none => (s, false)
  | some b =>
    if working s then
      let v := deriveView b s
      let s1 := { s with heads := s.heads.map (rewriteHead v s) }.reportAll
        ((writtenGantries v s.heads).map flagGantry)
      let s2 := writeFlags v.obstructions s1
      let s3 := reportProtection s.obstructions v.obstructions { s2 with obstructions := v.obstructions }
      (s3, engineHears (rewriteHead v s) s.heads)
    else (s, false)

end Sys2Proof.Machine
end

