-- ==== Sys2Proof/Machine/LanePlan.lean ====
section
/-! DEFINITION. The Lane Plan Unit (chapter 05): patterns, entry to CLEARING, the advances, the opening step, the wait
reason, the conflict trip, and the settling of the unit and the engine on each event (R45, R61, R80, R90). -/

namespace Sys2Proof.Machine

open Sys2Proof

/-! ### Patterns -/

/-- Direction of a target in a pattern (R13). -/
def targetDir : Target → Option Dir
  | .opened d => some d
  | .closed => none

/-- Target of a lane listed in an ACTIVE context, if it is listed in one (R13, R86). -/
def listedTarget (s : State) (lane : Nat) : Option Target :=
  s.plan.contexts.findSome? fun c =>
    match c with
    | .active body => (body.heldEntries.find? (fun e => decide (e.lane = lane))).map (·.target)
    | _ => none

/-- Committed pattern formed with the pairs of a CHANGE (R13). -/
def committedPattern (s : State) (pairs : List (Nat × Target)) : Pattern :=
  s.plan.lanes.map fun r =>
    match pairs.find? (fun p => decide (p.1 = r.lane)) with
    | some p => targetDir p.2
    | none =>
      match listedTarget s r.lane with
      | some t => targetDir t
      | none => if r.phase = .opened then r.direction else none

/-- The direction in which a lane counts in the present pattern (R14). -/
def presentDir (r : LaneRecord) : Option Dir :=
  match r.phase with
  | .opened => r.direction
  | .openingBody => r.direction
  | .openingEntry => r.direction
  | .closing => r.direction
  | .clearing => r.direction
  | .closed => none
  | .cleared => none

/-- Present pattern (R14). -/
def presentPattern (s : State) : Pattern := s.plan.lanes.map presentDir

/-- Present pattern with the open targets of a context added (R98 condition 4). -/
def openedPattern (s : State) (body : CtxBody) : Pattern :=
  s.plan.lanes.map fun r =>
    match body.heldEntries.find? (fun e => decide (e.lane = r.lane)) with
    | some e =>
      match e.target with
      | .opened d => some d
      | .closed => presentDir r
    | none => presentDir r

/-! ### Entry to CLEARING (R93) and traffic on a lane (R94, R97) -/

/-- Clear hold of the bore as loaded. -/
def clearHoldOf (s : State) : Nat :=
  match s.image with
  | some b => clearHold b
  | none => 0

/-- Occupancies of a lane's sections in index order (R93). -/
def laneOccupancies (s : State) (lane : Nat) : List Nat :=
  match s.image with
  | some b => (laneSections s b lane).map (·.occupancy)
  | none => []

/-- Take the snapshot of a lane into its entry of context k; every new snapshot is recorded in CONTEXTS, one equal to the
snapshot it replaces too (R93). -/
def takeSnapshot (k lane : Nat) (s : State) : State :=
  (modifyActive k (CtxBody.onHeld lane (fun e => { e with snapshot := some (laneOccupancies s lane) })) s).report
    (flagContext k)

/-- Enter CLEARING with a direction or none in context k: snapshot, timer at the full clear hold, clearing time 0. -/
def enterClearing (k lane : Nat) (d : Option Dir) (s : State) : State :=
  modifyLane lane (fun r =>
    { r.restartHold (clearHoldOf s) with
      phase := .clearing, direction := d, context := some k, clearingTime := some 0, clearMs := 0 })
    (takeSnapshot k lane s)

/-- A passage on a lane, or a section of it leaving CLEAR: restarts the timer of a lane in CLEARING (R94) and returns
a lane in CLEARED to CLEARING with no direction (R97), its snapshot read from the sections as `s` holds them, after all
that the passage changes (log 42). The second component says whether the lane's phase changed. -/
def laneTraffic (lane : Nat) (s : State) : State × Bool :=
  match lane? s lane with
  | none => (s, false)
  | some r =>
    match r.phase with
    | .clearing => (modifyLane lane (fun r => r.restartHold (clearHoldOf s)) s, false)
    | .cleared =>
      match r.context with
      | some k => (enterClearing k lane none s, true)
      | none => (s, false)
    | _ => (s, false)

/-! ### Conditions of the advances -/

/-- The entry closure the engine last handed over for a lane (R61). -/
def closureOf (s : State) (lane : Nat) : Option Obstruction :=
  s.obstructions.find? (fun o => decide (o.source = .entry) && decide (o.lane = lane))

/-- Whether the head of a gantry, lane and face is PROVEN or FAILED. -/
def headSettled (s : State) (g lane : Nat) (d : Dir) : Bool :=
  match head? s g lane d with
  | some h => h.proof.isSettled
  | none => true

/-- R91: the protecting head in use is PROVEN with reported CROSS, and every lead head PROVEN or FAILED. -/
def closingDone (s : State) (lane : Nat) : Bool :=
  match closureOf s lane with
  | none => false
  | some o =>
    match o.protecting with
    | none => false
    | some p =>
      (match head? s p lane o.face with
        | some h => decide (h.proof = .proven) && decide (h.reported = .cross)
        | none => false) && o.leads.all (fun g => headSettled s g lane o.face)

/-- Whether a lane's entry closure has no protecting head (R91, R102). -/
def closureUnprotected (s : State) (lane : Nat) : Bool :=
  match closureOf s lane with
  | none => true
  | some o => decide (o.protecting = none)

/-- R95: every section CLEAR and the hold timer run out. -/
def clearingDone (s : State) (b : Bore) (r : LaneRecord) : Bool :=
  (laneSections s b r.lane).all (fun x => decide (x.state = .clear)) && !r.holdRunning &&
    decide (r.holdRemaining = 0)

/-- R100: every head at a downstream position of the lane for d PROVEN or FAILED. -/
def bodyDone (s : State) (b : Bore) (lane : Nat) (d : Dir) : Bool :=
  (downstreamHeads b lane d).all (fun g => headSettled s g lane d)

/-- R101: entry head and approach heads of the lane for d PROVEN or FAILED. -/
def entryDone (s : State) (b : Bore) (lane : Nat) (d : Dir) : Bool :=
  (entryAndApproachHeads b lane d).all (fun g => headSettled s g lane d)

/-- R98 condition 3 for one lane: every head of the lane facing the other way reports CROSS or DARK from a GOOD node. -/
def opposingClear (s : State) (lane : Nat) (d : Dir) : Bool :=
  (s.heads.filter (fun h => decide (h.lane = lane) && decide (h.face = otherDir d))).all fun h =>
    (decide (h.reported = .cross) || decide (h.reported = .dark)) && nodeGood s h.gantry

/-- Whether a target is open. -/
def isOpenTarget : Target → Bool
  | .opened _ => true
  | .closed => false

/-- The first failing condition of the opening step, or `unset` where all hold (R98). -/
def stepReason (s : State) (b : Bore) (body : CtxBody) : WaitReason :=
  if s.plan.hold.active then .hold
  else if body.heldEntries.any (fun e => isOpenTarget e.target) && s.plan.inhibit then .inhibit
  else if !(body.heldEntries.all fun e =>
      match e.target with
      | .opened d => opposingClear s e.lane d
      | .closed => true) then .opposing
  else if !legalPattern b (openedPattern s body) then .pattern
  else .unset

/-- Whether every held entry has its lane in CLEARED (R98). -/
def allCleared (s : State) (body : CtxBody) : Bool :=
  body.heldEntries.all fun e =>
    match lane? s e.lane with
    | some r => decide (r.phase = .cleared)
    | none => false

/-! ### Advances -/

/-- A context with no entry held any more becomes DONE (R99, R101). -/
def finishCtx (k : Nat) (s : State) : State :=
  match ctx? s k with
  | some (.active body) =>
    if body.heldEntries.isEmpty then putCtx k (.done body.ended .completed) s else s
  | _ => s

/-- Release a lane's entry in context k (R86). -/
def releaseLane (k lane : Nat) (s : State) : State :=
  modifyActive k (CtxBody.onHeld lane CtxEntry.release) s

/-- The opening step (R99). -/
def openingStep (k : Nat) (body : CtxBody) (s : State) : State :=
  finishCtx k <| body.heldEntries.foldl (fun s e =>
    match e.target with
    | .closed => releaseLane k e.lane (modifyLane e.lane (LaneRecord.settleAs none) s)
    | .opened d => modifyLane e.lane (fun r => { r with phase := .openingBody, direction := some d }) s) s

/-- CLEARING to CLEARED with a target (R95). -/
def LaneRecord.toCleared (t : Target) (r : LaneRecord) : LaneRecord :=
  { r.leaveClearing with phase := .cleared, direction := targetDir t }

/-- The advance a held lane of context k takes on re-examination, if its condition holds: R91, R95, R100, R101. -/
def advanceLane (b : Bore) (k : Nat) (e : CtxEntry) (s : State) : State × Bool :=
  match lane? s e.lane with
  | none => (s, false)
  | some r =>
    match r.phase, r.direction with
    | .closing, d => if closingDone s e.lane then (enterClearing k e.lane d s, true) else (s, false)
    | .clearing, _ =>
      if clearingDone s b r then (modifyLane e.lane (LaneRecord.toCleared e.target) s, true) else (s, false)
    | .openingBody, some d =>
      if bodyDone s b e.lane d then (modifyLane e.lane (fun r => { r with phase := .openingEntry }) s, true)
      else (s, false)
    | .openingEntry, some d =>
      if entryDone s b e.lane d then
        (finishCtx k (releaseLane k e.lane (modifyLane e.lane (LaneRecord.settleAs (some d)) s)), true)
      else (s, false)
    | _, _ => (s, false)

/-- Re-examine one context: the opening step where every held lane is CLEARED, otherwise each held lane's own advance,
each lane at most once (R90, R98; log 10). -/
def examineCtx (b : Bore) (k : Nat) (s : State) : State × Bool :=
  match ctx? s k with
  | some (.active body) =>
    if s.plan.hold.active then (s, false)
    else if allCleared s body then
      if stepReason s b body = .unset then (openingStep k body s, true) else (s, false)
    else
      body.heldEntries.foldl (fun (p : State × Bool) e =>
        let q := advanceLane b k e p.1
        (q.1, p.2 || q.2)) (s, false)
  | _ => (s, false)

/-! ### The wait reason (R102) -/

/-- Own reason of a lane in CLEARING (R95). -/
def clearingReason (secs : List SectionRecord) : WaitReason :=
  if secs.any (fun x => decide (codeSection x.state ≥ 2)) then .disturbed
  else if secs.any (fun x => decide (x.state = .occupied)) then .occupied
  else .unset

/-- Own reason of a lane (R102). -/
def ownReason (s : State) (b : Bore) (lane : Nat) : WaitReason :=
  match lane? s lane with
  | none => .unset
  | some r =>
    match r.phase with
    | .closing => if closureUnprotected s lane then .protection
        else if closingDone s lane then .unset else .settling
    | .clearing => clearingReason (laneSections s b lane)
    | .openingBody => .settling
    | .openingEntry => .settling
    | _ => .unset

/-- Wait reason of an ACTIVE context (R102). -/
def waitReasonOf (s : State) (b : Bore) (body : CtxBody) : WaitReason :=
  if s.plan.hold.active then .hold
  else if allCleared s body then stepReason s b body
  else
    match (body.heldEntries.map (fun e => ownReason s b e.lane)).find? (fun w => decide (w ≠ .unset)) with
    | some w => w
    | none => .unset

/-- Form the wait reason of context k anew, where it is ACTIVE; a change is recorded in CONTEXTS (R102). -/
def formWait (b : Bore) (k : Nat) (s : State) : State :=
  match ctx? s k with
  | some (.active body) => modifyActive k (fun x => { x with wait := waitReasonOf s b body }) s
  | _ => s

/-- Re-examine every ACTIVE context, lowest number first: its wait reason is formed anew on what is found, so that a reason
that lasts for one re-examination alone is formed and recorded too, and then its advances are taken (R90, R102; log 10). -/
def examineAll (b : Bore) (s : State) : State × Bool :=
  (List.range s.plan.contexts.length).foldl (fun (p : State × Bool) k =>
    let q := examineCtx b k (formWait b k p.1)
    (q.1, p.2 || q.2)) (s, false)

/-! ### CONFLICT -/

/-- R109: every head of the lane PROVEN, or FAILED with reported aspect CROSS or DARK. -/
def conflictOver (s : State) (lane : Nat) : Bool :=
  (s.heads.filter (fun h => decide (h.lane = lane))).all fun h =>
    decide (h.proof = .proven) ||
      (h.proof.isFailed && (decide (h.reported = .cross) || decide (h.reported = .dark)))

/-- Clear CONFLICT on every lane whose heads allow it (R109). -/
def clearConflicts (s : State) : State :=
  (List.range s.plan.lanes.length).foldl (fun s i =>
    if conflictOver s (i + 1) then modifyLane (i + 1) (fun r => { r with conflict := false }) s else s) s

/-! ### Settling -/

/-- Let the engine and the Lane Plan Unit act on each other until neither moves: a computation with its writes, then
the re-examination it is handed to (R45, R61, R64, R90). R80 lets the two take the changes the Head Table hands on in
either order: that the engine computes first is the model's choice (log 35). `fuel` bounds the rounds (log 11). -/
def settle : Nat → Bool → State → State
  | 0, _, s => s
  | fuel + 1, compute, s =>
    match s.image with
    | none => s
    | some b =>
      let c := if compute then computeOnce s else (s, false)
      let e := examineAll b (clearConflicts c.1)
      if c.2 || e.2 then settle fuel true e.1 else e.1

/-- Rounds enough for every head to leave FAILED once and every lane to take every advance (log 11). -/
def settleFuel (s : State) : Nat := s.heads.length + 8 * s.plan.lanes.length + 8

/-- Settle after an event; `compute` says whether the event is one the engine computes on (R44). -/
def settled (compute : Bool) (s : State) : State := settle (settleFuel s) compute s

/-! ### The conflict trip (R109, R110) -/

/-- Every head of lane L facing the face other than f that is intended ARROW or DIVERT. -/
def invitedAgainst (s : State) (lane : Nat) (f : Dir) : Bool :=
  s.heads.any fun h =>
    decide (h.lane = lane) && decide (h.face = otherDir f) && decide (h.intended ≠ .cross)

/-- Close every lane held in an ACTIVE context and end it DONE(ABORTED_CONFLICT) (R110). -/
def abortConflict (k : Nat) (body : CtxBody) (s : State) : State :=
  putCtx k (.done body.ended .abortedConflict)
    (body.heldEntries.foldl (fun s e => modifyLane e.lane (LaneRecord.settleAs none) s) s)

/-- A wrong arrow on lane L, face f, reported to the Lane Plan Unit (R109), and, by the model's choice, before it hears of
the other heads' changes of the same reply (log 44). -/
def wrongArrowReport (lane : Nat) (f : Dir) (s : State) : State :=
  if invitedAgainst s lane f then
    let s1 := modifyLane lane (fun r => { r with conflict := true }) s
    match (lane? s1 lane).bind (·.context) with
    | none => settled true (modifyLane lane (LaneRecord.settleAs none) s1)
    | some k =>
      match ctx? s1 k with
      | some (.active body) => settled true (abortConflict k body s1)
      | _ => settled true (modifyLane lane (LaneRecord.settleAs none) s1)
  else s

/-! ### Changes of the hold and the inhibit -/

/-- Write the hold origin set, followed by a re-examination (R105). -/
def changeHold (h : HoldSet) (s : State) : State := settled false (setHold h s)

/-- Write the inhibit, followed by a re-examination (R107). -/
def changeInhibit (v : Bool) (s : State) : State := settled false (setInhibit v s)

end Sys2Proof.Machine
end

