-- ==== Sys2Proof/Machine/HeadTable.lean ====
section
/-! DEFINITION. The Head Table (chapter 04): what a reply, a BUSY reply, a probe result, a node health change, a RESYNC
and a RESEND make of a head record, and what the table hands on (R80). -/

namespace Sys2Proof.Machine

open Sys2Proof

/-- What a gantry reply says of one head position: aspect, failed-string count, and probe result where it gives one. -/
structure HeadReport where
  aspect : Aspect
  strings : Nat
  probe : Option Bool
  deriving DecidableEq, Repr

/-- A reply taken with aspect data matches a head when it reports the intended aspect (R69). -/
def matchesIntended (h : HeadRecord) (a : Aspect) : Bool := decide (a = h.intended.aspect)

/-- A recovery run raised by one; at 25 the head is PROVEN (R75, R79). -/
def recoverStep (h : HeadRecord) : HeadRecord :=
  if h.counter + 1 = 25 then { h with proof := .proven, counter := 0 } else { h with counter := h.counter + 1 }

/-- Proof transition on a matching reply within the lamp limit (R71, R72, R73, R75, R79). -/
def proofWithin (h : HeadRecord) : HeadRecord :=
  match h.proof with
  | .unknown => { h with proof := .proven, counter := 0 }
  | .awaiting _ => { h with proof := .proven, counter := 0 }
  | .proven => h
  | .failed .lamp => recoverStep h
  | .failed .mismatch => recoverStep h
  | .failed (.probe true) => recoverStep h
  | .failed (.probe false) => h
  | .failed .node => h

/-- Proof transition on a matching reply over the lamp limit (R71, R72, R73, R75, R79). -/
def proofOver (h : HeadRecord) : HeadRecord :=
  match h.proof with
  | .unknown => { h with proof := .failed .lamp, counter := 0 }
  | .awaiting _ => { h with proof := .failed .lamp, counter := 0 }
  | .proven => { h with proof := .failed .lamp, counter := 0 }
  | .failed .lamp => { h with counter := 0 }
  | .failed .mismatch => { h with proof := .failed .lamp, counter := 0 }
  | .failed (.probe true) => { h with counter := 0 }
  | .failed (.probe false) => h
  | .failed .node => h

/-- A mismatch counted toward the proof timeout (R71). -/
def mismatchStep (timeout : Nat) (h : HeadRecord) : HeadRecord :=
  if h.counter + 1 = timeout then { h with proof := .failed .mismatch, counter := 0 }
  else { h with counter := h.counter + 1 }

/-- Proof transition on a reply that does not match (R71, R72, R73, R75, R79). -/
def proofMismatch (timeout : Nat) (h : HeadRecord) : HeadRecord :=
  match h.proof with
  | .unknown => mismatchStep timeout h
  | .awaiting .unset => mismatchStep timeout h
  | .awaiting .one => { h with proof := .awaiting .two, counter := h.counter + 1 }
  | .awaiting .two => { h with proof := .failed .mismatch, counter := 0 }
  | .proven => { h with proof := .awaiting .one, counter := 1 }
  | .failed .lamp => { h with counter := 0 }
  | .failed .mismatch => { h with counter := 0 }
  | .failed (.probe true) => { h with counter := 0 }
  | .failed (.probe false) => h
  | .failed .node => h

/-- Whether an aspect is an arrow of any kind (R84). -/
def isArrow : Aspect → Bool
  | .arrow => true
  | .divertLo => true
  | .divertHi => true
  | _ => false

/-- Wrong-arrow run after a reply (R84). -/
def wrongRunAfter (h : HeadRecord) (a : Aspect) : Nat :=
  if h.intended = .cross ∧ isArrow a = true then min 3 (h.wrongRun + 1) else 0

/-- Whether a reply makes the head a wrong arrow: its run reaches 3 (R84). -/
def becomesWrongArrow (h : HeadRecord) (a : Aspect) : Bool :=
  decide (wrongRunAfter h a = 3) && decide (h.wrongRun ≠ 3)

/-- Proof transition of a head on a reply taken with aspect data in RUN or CONFIG (R69 to R75). -/
def proofTransition (b : Bore) (a : Aspect) (strings : Nat) (h : HeadRecord) : HeadRecord :=
  if matchesIntended h a then
    if strings ≤ b.lampLimit then proofWithin h else proofOver h
  else proofMismatch b.proofTimeout h

/-- The wrong-arrow rule on the same reply: the run, and failure where it reaches 3 (R84). -/
def wrongArrowStep (a : Aspect) (h : HeadRecord) : HeadRecord :=
  if becomesWrongArrow h a && !h.proof.isFailed then
    { h with wrongRun := wrongRunAfter h a, proof := .failed .mismatch, counter := 0 }
  else { h with wrongRun := wrongRunAfter h a }

/-- Aspect data of one head in RUN or CONFIG: reported aspect and strings recorded, proof moved, wrong arrow watched. -/
def takeAspect (b : Bore) (a : Aspect) (strings : Nat) (h : HeadRecord) : HeadRecord :=
  { wrongArrowStep a (proofTransition b a strings h) with reported := a, strings := strings }

/-- A probe result applied to a head in RUN or CONFIG (R78, R79). -/
def applyProbe (passed : Bool) (h : HeadRecord) : HeadRecord :=
  if passed then
    match h.proof with
    | .failed (.probe false) => { h with probe := .pass, proof := .failed (.probe true), counter := 0 }
    | _ => { h with probe := .pass }
  else
    match h.proof with
    | .failed .node => { h with probe := .fail }
    | _ => { h with probe := .fail, proof := .failed (.probe false), counter := 0 }

/-- A probe result recorded in STARTUP, with no transition (R78). -/
def recordProbe (passed : Bool) (h : HeadRecord) : HeadRecord :=
  { h with probe := if passed then .pass else .fail }

/-- A BUSY reply: a PROVEN head goes to AWAITING (R74). -/
def takeBusy (h : HeadRecord) : HeadRecord :=
  match h.proof with
  | .proven => { h with proof := .awaiting .unset, counter := 0 }
  | _ => h

/-- Loss of the head's node (R76). -/
def loseHead (h : HeadRecord) : HeadRecord :=
  { h with
    reported := .unknown, strings := 0, proof := .failed .node, counter := 0, probe := .unset, wrongRun := 0 }

/-- The head's node leaving LOST (R76). -/
def recoverHead (h : HeadRecord) : HeadRecord :=
  { h with reported := .unknown, proof := .unknown, counter := 0 }

/-- Proof discarded by a RESYNC or RESEND (R81). -/
def discardProof (h : HeadRecord) : HeadRecord :=
  { h with reported := .unknown, strings := 0, proof := .unknown, counter := 0, probe := .unset, wrongRun := 0 }

/-- Change the heads that satisfy `sel` and hand on what results: the engine computes where a head entered or left
FAILED, and the Lane Plan Unit re-examines (R80). -/
def changeHeads (sel : HeadRecord → Bool) (f : HeadRecord → HeadRecord) (s : State) : State :=
  let g := fun h => if sel h then f h else h
  settled (engineHears g s.heads) (modifyHeads g s)

/-- A gantry node becoming LOST (R76). -/
def gantryLost (n : Nat) (s : State) : State := changeHeads (fun h => decide (h.gantry = n)) loseHead s

/-- A gantry node leaving LOST for GOOD (R76). -/
def gantryRecovered (n : Nat) (s : State) : State := changeHeads (fun h => decide (h.gantry = n)) recoverHead s

/-- A head record after a READY or FALLBACK reply in RUN or CONFIG: aspect data, then probe result (R68, R78). -/
def takeReport (b : Bore) (r : HeadReport) (h : HeadRecord) : HeadRecord :=
  let h1 := takeAspect b r.aspect r.strings h
  match r.probe with
  | some p => applyProbe p h1
  | none => h1

/-- A head record after a READY or FALLBACK reply in STARTUP: recorded, with no transition (R69, R78). -/
def recordReport (r : HeadReport) (h : HeadRecord) : HeadRecord :=
  let h1 := { h with reported := r.aspect, strings := r.strings }
  match r.probe with
  | some p => recordProbe p h1
  | none => h1

/-- What a FAULT reply says of a head: UNKNOWN, failed strings as they were, no probe result (R68, R78). -/
def faultReport (h : HeadRecord) : HeadReport := ⟨.unknown, h.strings, none⟩

/-- The report for a head's position in a list of twelve (chapter 10). -/
def reportFor (reports : List HeadReport) (h : HeadRecord) : HeadReport :=
  (reports[headPosition h.lane h.face]?).getD (faultReport h)

/-- Heads that a reply makes wrong arrows, in head order (R84). -/
def wrongArrowsOf (rep : HeadRecord → HeadReport) (n : Nat) (hs : List HeadRecord) : List HeadRecord :=
  hs.filter fun h => decide (h.gantry = n) && becomesWrongArrow h (rep h).aspect

/-- A reply with aspect data for gantry n taken by the table: records in STARTUP; in RUN and CONFIG moves the heads,
reports each wrong arrow in head order, and hands on the rest (R68, R69, R80, R84; log 13). That the wrong arrows are
reported, and a lane trips, before the other heads' changes of the same reply are handed on, and so before any advance
they allow, is the model's choice: R80, R84 and R109 leave the order open (log 44). -/
def takeAspects (b : Bore) (n : Nat) (rep : HeadRecord → HeadReport) (s : State) : State :=
  if working s then
    let g := fun (h : HeadRecord) => if h.gantry = n then takeReport b (rep h) h else h
    let s1 := modifyHeads g s
    let s2 := (wrongArrowsOf rep n s.heads).foldl (fun t h => wrongArrowReport h.lane h.face t) s1
    settled (engineHears g s.heads) s2
  else { s with heads := s.heads.map (fun h => if h.gantry = n then recordReport (rep h) h else h) }

/-- A BUSY reply of gantry n (R74). -/
def takeBusyReply (n : Nat) (s : State) : State := changeHeads (fun h => decide (h.gantry = n)) takeBusy s

/-- A head record after the probe result a report gives it, if any: applied in RUN and CONFIG, recorded in STARTUP
(R78). -/
def takeProbe (work : Bool) (r : HeadReport) (h : HeadRecord) : HeadRecord :=
  match r.probe with
  | some p => if work then applyProbe p h else recordProbe p h
  | none => h

/-- Probe results of a PROBE_NOW, applied as scheduled ones (R78, R153). -/
def takeProbes (n : Nat) (reports : List HeadReport) (s : State) : State :=
  changeHeads (fun h => decide (h.gantry = n)) (fun h => takeProbe (working s) (reportFor reports h) h) s

/-- Discard the proof of the heads of `sel` whose node is not LOST (R81, R82). -/
def discardProofs (sel : HeadRecord → Bool) (s : State) : State :=
  changeHeads (fun h => sel h && !nodeLost s h.gantry) discardProof s

end Sys2Proof.Machine
end

