-- ==== Sys2Proof/Machine/Counting.lean ====
section
/-! DEFINITION. The Occupancy Counting Unit (chapter 02): acceptance of loop pairs, the decoder, passages, the section
record, faulty crossing points and the restores. -/

namespace Sys2Proof.Machine

open Sys2Proof

/-! ### Sections (R28 to R32, R36) -/

/-- A section made DISTURBED, keeping its occupancy (R32). -/
def SectionRecord.disturb (x : SectionRecord) : SectionRecord := { x with state := .disturbed }

/-- State after an exit that leaves an occupancy (R30, R31, R36, R38). -/
def stateAfterExit (st : SectionState) (occ : Nat) : SectionState :=
  match st with
  | .clear => .clear
  | .occupied => if occ = 0 then .clear else .occupied
  | .disturbed => .disturbed
  | .prepared mark => if occ = 0 ∧ mark = true then .clear else .prepared mark
  | .restorePending l w m => .restorePending l w m

/-- State after an entry from an occupancy (R30, R31, R36, R38). -/
def stateAfterEntry (st : SectionState) (before : Nat) : SectionState :=
  match st with
  | .clear => .occupied
  | .occupied => .occupied
  | .disturbed => .disturbed
  | .prepared mark => .prepared (mark || decide (before = 0))
  | .restorePending l w m => .restorePending l w m

/-- An exit; from occupancy 0 it is an underflow (R28). -/
def SectionRecord.exit (x : SectionRecord) : SectionRecord :=
  if x.occupancy = 0 then x.disturb
  else { x with occupancy := x.occupancy - 1, state := stateAfterExit x.state (x.occupancy - 1) }

/-- An entry; at the capacity it is an overflow (R28). -/
def SectionRecord.enter (x : SectionRecord) : SectionRecord :=
  if x.capacity ≤ x.occupancy then x.disturb
  else { x with occupancy := x.occupancy + 1, state := stateAfterEntry x.state x.occupancy }

/-! ### The decoder (R21, R22) -/

/-- What an accepted pair does at a crossing point (R22). -/
inductive DecodeEvent
  | quiet
  | risingPassage
  | fallingPassage
  | error
  deriving DecidableEq, Repr

/-- The decode table: next phase and event for a phase and an accepted pair (R22). -/
def decodeStep (p : Decode) (pair : LoopPair) : Decode × DecodeEvent :=
  match p, pair with
  | .idle, ⟨false, false⟩ => (.idle, .quiet)
  | .idle, ⟨true, false⟩ => (.r1, .quiet)
  | .idle, ⟨true, true⟩ => (.idle, .error)
  | .idle, ⟨false, true⟩ => (.f1, .quiet)
  | .r1, ⟨false, false⟩ => (.idle, .quiet)
  | .r1, ⟨true, false⟩ => (.r1, .quiet)
  | .r1, ⟨true, true⟩ => (.r2, .quiet)
  | .r1, ⟨false, true⟩ => (.idle, .error)
  | .r2, ⟨false, false⟩ => (.idle, .error)
  | .r2, ⟨true, false⟩ => (.idle, .error)
  | .r2, ⟨true, true⟩ => (.r2, .quiet)
  | .r2, ⟨false, true⟩ => (.r3, .quiet)
  | .r3, ⟨false, false⟩ => (.idle, .risingPassage)
  | .r3, ⟨true, false⟩ => (.idle, .error)
  | .r3, ⟨true, true⟩ => (.r2, .risingPassage)
  | .r3, ⟨false, true⟩ => (.r3, .quiet)
  | .f1, ⟨false, false⟩ => (.idle, .quiet)
  | .f1, ⟨true, false⟩ => (.idle, .error)
  | .f1, ⟨true, true⟩ => (.f2, .quiet)
  | .f1, ⟨false, true⟩ => (.f1, .quiet)
  | .f2, ⟨false, false⟩ => (.idle, .error)
  | .f2, ⟨true, false⟩ => (.f3, .quiet)
  | .f2, ⟨true, true⟩ => (.f2, .quiet)
  | .f2, ⟨false, true⟩ => (.idle, .error)
  | .f3, ⟨false, false⟩ => (.idle, .fallingPassage)
  | .f3, ⟨true, false⟩ => (.f3, .quiet)
  | .f3, ⟨true, true⟩ => (.f2, .fallingPassage)
  | .f3, ⟨false, true⟩ => (.idle, .error)

/-- Acceptance of a reported pair with persistence P, and its step of the decoder where it is accepted (R21). -/
def acceptPair (persistence : Nat) (pair : LoopPair) (c : Crossing) : Crossing × DecodeEvent :=
  let count := if c.candidate = some pair then min persistence (c.count + 1) else 1
  let c1 := { c with candidate := some pair, count := count }
  if count = persistence ∧ pair ≠ c.accepted then
    let r := decodeStep c.phase pair
    ({ c1 with accepted := pair, phase := r.1 }, r.2)
  else (c1, .quiet)

/-- Decoder values of a crossing point when formed, becoming FAULTY or leaving FAULTY (R19, R24, R25). -/
def Crossing.resetDecoder (c : Crossing) : Crossing :=
  { c with phase := .idle, accepted := ⟨false, false⟩, candidate := none, count := 0 }

/-! ### Effects on sections and lanes (R23, R24, R26) -/

/-- Whether a section is CLEAR now. -/
def isClear (s : State) (b : Bore) (lane index : Nat) : Bool :=
  match sectionAt? s b lane index with
  | some x => decide (x.state = .clear)
  | none => false

/-- Whether either section adjacent to (k, L) left CLEAR between two states (R33, R94, R97). -/
def leftClear (s s' : State) (b : Bore) (k lane : Nat) : Bool :=
  (decide (1 ≤ k) && isClear s b lane (k - 1) && !isClear s' b lane (k - 1)) ||
    (isClear s b lane k && !isClear s' b lane k)

/-- Change the section below and the section above crossing point (k, L), each where it exists (R23, R26). -/
def onAdjacent (b : Bore) (k lane : Nat) (below above : SectionRecord → SectionRecord) (s : State) : State :=
  let s1 := if k = 0 then s else modifySection b lane (k - 1) below s
  modifySection b lane k above s1

/-- Report to the Lane Plan Unit what happened at (k, L): a passage or error, or a section leaving CLEAR, then the
re-examination (R26, R33, R90). Where a marked exit makes the last section CLEAR on a CLEARING lane whose hold timer has
run out, that the passage is taken before the section's change, so that the timer restarts and the lane stays CLEARING
(R94) in place of becoming CLEARED (R95) and going back by R97, is the model's choice (log 39). A passage within the bore
changes two sections, by its exit and its entry; that both have changed when the return of a CLEARED lane to CLEARING
reads its snapshot (R93, R97) is the model's choice (log 42). -/
def reportTraffic (b : Bore) (k lane : Nat) (passage : Bool) (s s' : State) : State :=
  if passage || leftClear s s' b k lane then
    let r := laneTraffic lane s'
    settled r.2 r.1
  else settled false s'

/-- Both sections adjacent to (k, L) become DISTURBED (R23, R24). -/
def disturbAdjacent (b : Bore) (k lane : Nat) (passage : Bool) (s : State) : State :=
  reportTraffic b k lane passage s
    (onAdjacent b k lane SectionRecord.disturb SectionRecord.disturb s)

/-- Effect of a decoder event at (k, L) (R23, R26). -/
def decodeEffect (b : Bore) (k lane : Nat) (e : DecodeEvent) (s : State) : State :=
  match e with
  | .quiet => s
  | .risingPassage =>
    reportTraffic b k lane true s (onAdjacent b k lane SectionRecord.exit SectionRecord.enter s)
  | .fallingPassage =>
    reportTraffic b k lane true s (onAdjacent b k lane SectionRecord.enter SectionRecord.exit s)
  | .error => disturbAdjacent b k lane true s

/-- Node number of a station (R8). -/
def stationNode (b : Bore) (k : Nat) : Nat := gantryCount b + k + 1

/-- Re-evaluate FAULTY at (k, L): entering it resets the decoder and disturbs the adjacent sections, leaving it resets
the decoder (R24, R25). -/
def reevaluate (b : Bore) (k lane : Nat) (s : State) : State :=
  match crossing? s b k lane with
  | none => s
  | some c =>
    let now := c.loopFault || nodeLost s (stationNode b k)
    if now = c.faulty then s
    else
      let s1 := putCrossing b k lane { c.resetDecoder with faulty := now } s
      if now then disturbAdjacent b k lane false s1 else s1

/-- What a station reply says of one lane position: its loop pair and loop-fault flag (R140). -/
structure LoopReport where
  pair : LoopPair
  fault : Bool
  deriving DecidableEq, Repr

/-- Persistence of a station (R8). -/
def persistenceOf (b : Bore) (k : Nat) : Nat :=
  match b.stations[k]? with
  | some st => st.persistence
  | none => 1

/-- One lane of a station reply taken: the loop fault recorded, FAULTY re-evaluated, and the pair put to acceptance
where the crossing point is not FAULTY (R20, R21, R24). -/
def takeLoop (b : Bore) (k lane : Nat) (r : LoopReport) (s : State) : State :=
  match crossing? s b k lane with
  | none => s
  | some c =>
    let s1 := reevaluate b k lane (putCrossing b k lane { c with loopFault := r.fault } s)
    match crossing? s1 b k lane with
    | none => s1
    | some c1 =>
      if c1.faulty then s1
      else
        let a := acceptPair (persistenceOf b k) r.pair c1
        decodeEffect b k lane a.2 (putCrossing b k lane a.1 s1)

/-- A reply of station k taken, lane by lane (R20; log 12). -/
def takeLoops (b : Bore) (k : Nat) (rep : Nat → LoopReport) (s : State) : State :=
  (List.range (laneCount b)).foldl (fun s i => takeLoop b k (i + 1) (rep (i + 1)) s) s

/-- Every crossing point of station k re-evaluated, on a change of the node's health (R24). -/
def reevaluateStation (b : Bore) (k : Nat) (s : State) : State :=
  (List.range (laneCount b)).foldl (fun s i => reevaluate b k (i + 1) s) s

/-! ### Restores (R34 to R40) -/

/-- A section taken to another state by a restore, reported and followed by a re-examination (R33, R35, R37, R39). -/
def restoreSection (b : Bore) (lane index : Nat) (f : SectionRecord → SectionRecord) (s : State) : State :=
  settled false (modifySection b lane index f s)

/-- RESTORE SWEEP (R35). -/
def SectionRecord.sweep (x : SectionRecord) : SectionRecord := { x with occupancy := 0, state := .prepared false }

/-- RESTORE DIRECT (R37). -/
def SectionRecord.direct (l : Link) (window : Nat) (x : SectionRecord) : SectionRecord :=
  { x with state := .restorePending l window 0 }

/-- A confirmed restore (R39). -/
def SectionRecord.confirmed (x : SectionRecord) : SectionRecord := { x with occupancy := 0, state := .clear }

/-- Whether a pending window has reached 0 (R37). -/
def windowExpired (x : SectionRecord) : Bool :=
  match x.state with
  | .restorePending _ 0 _ => true
  | _ => false

end Sys2Proof.Machine
end

