-- ==== Sys2Proof/Machine/Operands.lean ====
section
/-! DEFINITION. Reading of operands: the fields of a request (R190), and the replies heard on the chain, judged
well-formed or not (R143, R193, R194). -/

namespace Sys2Proof.Machine

open Sys2Proof

/-! ### Request fields -/

/-- A one-byte field of a request, by its place after the code. -/
def field (fs : List Byte) (i : Nat) : Nat := (fs.getD i 0#8).toNat

/-- A two-byte field of a request, high byte first. -/
def field16 (fs : List Byte) (i : Nat) : Nat := field fs i * 256 + field fs (i + 1)

/-- The pairs of a CHANGE, lane and target byte (chapter 10). -/
def pairsOf : List Byte → List (Nat × Nat)
  | lane :: target :: rest => (lane.toNat, target.toNat) :: pairsOf rest
  | _ => []

/-! ### Chain replies -/

/-- A well-formed slot reply: its status, the probed flag of a gantry reply, and its position or lane bytes. -/
structure SlotReply where
  status : ModStatus
  probed : Bool
  bytes : List Byte
  deriving DecidableEq, Repr

/-- Aspect code of a position byte: bits 2 to 0 (chapter 10). -/
def positionAspect (p : Byte) : Option Aspect := aspectOf (p.toNat % 8)

/-- Failed-string count of a position byte: bits 7 to 4. -/
def positionStrings (p : Byte) : Nat := p.toNat / 16

/-- Whether the probe result bit of a position byte reads PASS: bit 3 clear. -/
def positionPass (p : Byte) : Bool := !p.getLsbD 3

/-- A gantry reply after its CRC and node number have been judged (R143, R193). -/
def gantryReply (body : List Byte) : Option SlotReply :=
  match body with
  | [st] => if st.toNat = 1 then some ⟨.busy, false, []⟩ else none
  | st :: flags :: positions =>
    match statusOf st.toNat with
    | some .busy => none
    | some status =>
      if positions.length = 12 ∧ positions.all (fun p => (positionAspect p).isSome) = true then
        some ⟨status, flags.getLsbD 0, positions⟩
      else none
    | none => none
  | [] => none

/-- A station reply after its CRC and node number have been judged (R143, R193). -/
def stationReply (body : List Byte) : Option SlotReply :=
  match body with
  | [] => none
  | st :: lanes =>
    match statusOf st.toNat with
    | some .busy => if lanes.isEmpty then some ⟨.busy, false, []⟩ else none
    | some .fallback => none
    | some status => if lanes.length = 6 then some ⟨status, false, lanes⟩ else none
    | none => none

/-- What a channel delivered in node n's window, judged (R143). -/
def slotReply (kind : NodeKind) (n : Nat) (heard : Heard) : Option SlotReply :=
  match heard.bind chainBody with
  | some (node :: rest) =>
    if node.toNat = n then
      match kind with
      | .gantry => gantryReply rest
      | .station => stationReply rest
    else none
  | _ => none

/-- Outcome of a frame for a node (R143). -/
inductive WindowOutcome
  | valid (r : SlotReply)
  | missing
  | disagreement
  deriving DecidableEq, Repr

/-- Outcome from the two channels: identical byte for byte, or one alone (R143). -/
def windowOutcome (kind : NodeKind) (n : Nat) (a b : Heard) : WindowOutcome :=
  match slotReply kind n a, slotReply kind n b with
  | none, none => .missing
  | some r, none => .valid r
  | none, some r => .valid r
  | some r, some _ => if a = b then .valid r else .disagreement

/-- The twelve head reports of a gantry reply; a probe result is read only where the command carried the probe flag
and the reply is probed (R193). -/
def headReports (probing : Bool) (r : SlotReply) : List HeadReport :=
  r.bytes.map fun p =>
    ⟨(positionAspect p).getD .unknown, positionStrings p,
      if probing && r.probed then some (positionPass p) else none⟩

/-- The report of one lane position of a station reply; a FAULT reply reports a loop fault in every lane (R20). -/
def loopReport (r : SlotReply) (lane : Nat) : LoopReport :=
  let x := r.bytes.getD (lane - 1) 0#8
  match r.status with
  | .fault => ⟨⟨x.getLsbD 1, x.getLsbD 0⟩, true⟩
  | _ => ⟨⟨x.getLsbD 1, x.getLsbD 0⟩, x.getLsbD 7⟩

/-! ### Service replies -/

/-- Length of the operation data of a READY or FALLBACK service reply (chapter 10). -/
def serviceDataLength (kind : NodeKind) : Operation → Nat
  | .identify => match kind with
    | .gantry => 5
    | .station => 4
  | .probeNow => 12
  | .lampDetail => 24
  | .loopDetail => 36
  | .nodeReset => 0

/-- Whether an operation is valid for a node kind (R153). -/
def operationFits : Operation → NodeKind → Bool
  | .identify, _ => true
  | .nodeReset, _ => true
  | .probeNow, .gantry => true
  | .lampDetail, .gantry => true
  | .loopDetail, .station => true
  | _, _ => false

/-- A well-formed service reply: its status and operation data. -/
structure ServiceReply where
  status : ModStatus
  data : List Byte
  deriving DecidableEq, Repr

/-- Whether a status carries operation data: READY or FALLBACK (R152). -/
def carriesData : ModStatus → Bool
  | .ready => true
  | .fallback => true
  | _ => false

/-- What a channel delivered in the service reply window, judged (R194; log 25). -/
def serviceReply (kind : NodeKind) (e : ServiceEntry) (heard : Heard) : Option ServiceReply :=
  match heard.bind chainBody with
  | some (node :: op :: st :: data) =>
    match statusOf st.toNat with
    | none => none
    | some status =>
      let want := if carriesData status then serviceDataLength kind e.operation else 0
      if node.toNat = e.node ∧ op.toNat = codeOperation e.operation ∧ data.length = want then
        some ⟨status, data⟩
      else none
  | _ => none

end Sys2Proof.Machine
end

