-- ==== Sys2Proof/Machine/Closures.lean ====
section
/-! DEFINITION. Span closures, overlays and emergency inputs (chapter 06). -/

namespace Sys2Proof.Machine

open Sys2Proof

/-! ### Overlays (R121 to R125) -/

/-- An origin of an overlay (R121). -/
inductive Origin
  | link (l : Link)
  | input (i : Nat)
  deriving DecidableEq, Repr

/-- An overlay with no origin yet. -/
def Overlay.bare (t : OverlayTarget) : Overlay := ⟨t, false, false, []⟩

/-- Add or mark an input origin in a list kept by number (R121, R122). -/
def markInput (i : Nat) (active : Bool) : List InputOrigin → List InputOrigin
  | [] => [⟨i, active⟩]
  | x :: xs =>
    if i < x.input then ⟨i, active⟩ :: x :: xs
    else if i = x.input then ⟨i, active⟩ :: xs
    else x :: markInput i active xs

/-- Add an origin: a link origin once, an input origin marked active (R122 step 2). -/
def Overlay.addOrigin (o : Origin) (v : Overlay) : Overlay :=
  match o with
  | .link .a => { v with linkA := true }
  | .link .b => { v with linkB := true }
  | .input i => { v with inputs := markInput i true v.inputs }

/-- A raising of an overlay: the inhibit is set, the origin added, and a creation handed to the engine (R122). -/
def raiseOverlay (t : OverlayTarget) (o : Origin) (s : State) : State :=
  let s1 := setInhibit true s
  match overlay? s1 t with
  | some v => settled false (setOverlays (insertOverlay (v.addOrigin o) s1.store.overlays) s1)
  | none => settled true (setOverlays (insertOverlay ((Overlay.bare t).addOrigin o) s1.store.overlays) s1)

/-- Mark an input's origin inactive in an overlay that holds it (R124). -/
def Overlay.markInactive (i : Nat) (v : Overlay) : Overlay :=
  { v with inputs := v.inputs.map (fun x => if x.input = i then ⟨i, false⟩ else x) }

/-- Mark an input's origin inactive in the overlay of its target; nothing where none holds it (R124, R131). -/
def dropInput (t : OverlayTarget) (i : Nat) (s : State) : State :=
  setOverlays (s.store.overlays.map (fun v => if v.target = t then v.markInactive i else v)) s

/-- Remove the overlay of a target with all its origins (R125). -/
def removeOverlay (t : OverlayTarget) (s : State) : State :=
  settled true (setOverlays (s.store.overlays.filter (fun v => decide (v.target ≠ t))) s)

/-- Overlay target of a stop input's function (R124, R128). -/
def stopTarget : InputFunction → Option OverlayTarget
  | .zoneStop z => some (.zone z)
  | .portalStop p => some (.portal p)
  | _ => none

/-! ### Emergency inputs (R127 to R131) -/

/-- Contact level of an input's line. -/
def contactOf (s : State) (i : Nat) : Contact := (s.pins.contacts[i]?).getD .opened

/-- Whether an input's contact stands at the level opposite its filtered level (R127). -/
def inputDeparted (s : State) (i : Nat) (r : InputRecord) : Bool :=
  decide (atActiveLevel r.cfg.polarity (contactOf s i) ≠ r.active)

/-- Hand a change of an input's filtered level to the block of its function (R128). -/
def handInput (i : Nat) (f : InputFunction) (active : Bool) (s : State) : State :=
  match f with
  | .zoneStop z => if active then raiseOverlay (.zone z) (.input i) s else dropInput (.zone z) i s
  | .portalStop p => if active then raiseOverlay (.portal p) (.input i) s else dropInput (.portal p) i s
  | .sequenceHold => changeHold (s.plan.hold.setInput i active) s
  | .lockLink _ => s
  | .unrouted => s

/-- Input records as formed at a load and again at a restart: levels inactive, nothing pending (R126). -/
def formInputs (cfgs : List InputCfg) : List InputRecord := cfgs.map (fun c => ⟨c, false, 0⟩)

/-- Numbers of the SEQUENCE_HOLD inputs whose filtered level is active (R106). -/
def activeHolds (s : State) : List Nat :=
  (List.range s.inputs.length).filter fun i =>
    match s.inputs[i]? with
    | some r => r.active && decide (r.cfg.function = .sequenceHold)
    | none => false

/-- Bring the overlay set into agreement with one input at entry to RUN (R131). -/
def sampleInput (i : Nat) (s : State) : State :=
  match s.inputs[i]? with
  | none => s
  | some r =>
    match stopTarget r.cfg.function with
    | none => s
    | some t => if r.active then raiseOverlay t (.input i) s else dropInput t i s

/-- Sampling of the stop inputs at entry to RUN, by number (R131). -/
def sampleInputs (s : State) : State :=
  (List.range s.inputs.length).foldl (fun s i => sampleInput i s) s

end Sys2Proof.Machine
end

