-- ==== Sys2Proof/Machine/PartControl.lean ====
section
/-! DEFINITION. The Part State Controller (chapter 08): entry to LOADING, the records formed from an accepted image, lane
recovery and entry to RUN, restart, and the full reset. -/

namespace Sys2Proof.Machine

open Sys2Proof

/-! ### Entry to LOADING and full reset (R160, R183) -/

/-- The reply of an exchange, as one still to be sent. -/
def Exchange.leave (e : Exchange) : Leaving := ⟨e.reply, e.age⟩

/-- A Link Unit at entry to LOADING (R183): not serving, while a reply already due is still sent in full, behind those
left by an earlier entry; a RELOAD or RESTART it carried takes no effect any more (R179; log 15). -/
def LinkUnit.enterLoading (u : LinkUnit) : LinkUnit :=
  { LinkUnit.formed with leaving := u.leaving ++ u.exchange.toList.map Exchange.leave }

/-- What a restart or entry to LOADING leaves of the frame under way: the node slot in progress, to its end; nothing
where the node slots were over (R138; log 9). -/
def Chain.cutFrame (c : Chain) : Option Frame :=
  match c.frame with
  | some f => if f.cut = true ∨ f.slot ≤ c.nodes.length then some { f with cut := true } else none
  | none => none

/-- The chain at entry to LOADING, by whatever cause: silent once the slot in progress has ended (R138, R160). -/
def Chain.enterLoading (c : Chain) : Chain := { Chain.silent with frame := c.cutFrame }

/-- Entry to LOADING other than by a full reset: every block discards what it formed from the image (R160). A read that a
restart in LOADING abandons at the end of its bus byte (R171) is dropped at once, with no stop event kept and both lines
released: the model's choice, R171 not saying what it leaves on the bus (log 43). -/
def enterLoading (s : State) : State :=
  { State.reset with
    pending := s.pending
    pins := s.pins
    linkA := s.linkA.enterLoading
    linkB := s.linkB.enterLoading
    chain := s.chain.enterLoading }

/-- A full reset, with RESET_N at a level: everything as after power-up but the outside contact levels, and the slot in
progress, which ends as at any entry to LOADING (R138, R160, R183). -/
def fullReset (low : Bool) (s : State) : State :=
  { State.reset with pending := s.pending, pins := ⟨low, s.pins.contacts⟩, chain := s.chain.enterLoading }

/-! ### Records formed at the end of a good load (R166) -/

/-- A lane record as formed (R18). -/
def LaneRecord.formed (lane : Nat) (c : LaneCfg) : LaneRecord :=
  ⟨lane, c.kind, c.escape, .closed, none, none, false, false, false, false, false, 0, none, 0, 0⟩

/-- Lane records as formed (R18). -/
def formLanes (b : Bore) : List LaneRecord := b.lanes.mapIdx (fun i c => LaneRecord.formed (i + 1) c)

/-- Numbers 1 to n. -/
def upTo (n : Nat) : List Nat := (List.range n).map (· + 1)

/-- Crossing-point records as formed, and at a restart (R19). -/
def formCrossings (b : Bore) : List Crossing :=
  (List.range (stationCount b)).flatMap fun k => (upTo (laneCount b)).map fun lane =>
    ⟨k, lane, .idle, ⟨false, false⟩, none, 0, false, false⟩

/-- Section records as formed (R29). -/
def formSections (b : Bore) : List SectionRecord :=
  (upTo (laneCount b)).flatMap fun lane => (List.range (sectionCount b)).map fun i =>
    ⟨lane, i, stationC b i, stationC b (i + 1), sectionCapacity b i, 0, .disturbed⟩

/-- A head record as formed, with an intended aspect (R67). -/
def HeadRecord.formed (g lane : Nat) (d : Dir) (a : Intended) : HeadRecord :=
  ⟨g, lane, d, a, .unknown, 0, .unknown, 0, .unset, 0⟩

/-- Head records as formed: by gantry, then lane, then RISING before FALLING (R5, R43, R67). -/
def formHeads (b : Bore) : List HeadRecord :=
  (upTo (gantryCount b)).flatMap fun g => (upTo (laneCount b)).flatMap fun lane =>
    ([Dir.rising, Dir.falling].filter (hasHead b g lane)).map fun d => HeadRecord.formed g lane d .cross

/-- A node record as formed, and at a restart (R144). -/
def NodeRecord.formed (n : Nat) (k : NodeKind) : NodeRecord :=
  ⟨n, k, .integrating, none, 0, 0, 0, 0, false, false, false⟩

/-- Node records as formed: gantries, then stations (R136, R144). -/
def formNodes (b : Bore) : List NodeRecord :=
  (upTo (gantryCount b)).map (fun n => NodeRecord.formed n .gantry) ++
    (upTo (stationCount b)).map (fun k => NodeRecord.formed (gantryCount b + k) .station)

/-- Entry to STARTUP with a kind and frame count 0, recorded in PART (R159, R166, R172). -/
def setStartup (k : StartupKind) (s : State) : State :=
  { s with psc := { s.psc with part := .startup, startupKind := some k, startupFrames := 0 } }.report flagPart

/-- An accepted image: every record formed, and STARTUP FRESH with the first chain frame due at once (R166). -/
def acceptImage (b : Bore) (s : State) : State :=
  setStartup .fresh
    { s with
      loader := { s.loader with phase := .idle, failed := 0, waitMs := 0 }
      image := some b
      plan := { LanePlan.formed with lanes := formLanes b }
      count := ⟨formCrossings b, formSections b⟩
      obstructions := []
      heads := formHeads b
      store := ⟨List.replicate 12 none, []⟩
      inputs := formInputs b.inputs
      chain := { Chain.silent with nodes := formNodes b } }

/-! ### End of STARTUP (R168 to R170) -/

/-- A change of a node's health handed on: to the Head Table and Lane Plan Unit for a gantry, to the Occupancy
Counting Unit for a station (R76, R148). -/
def handHealth (b : Bore) (n : Nat) (before after : Health) (s : State) : State :=
  if before = after then s
  else if n ≤ gantryCount b then
    if after = .lost then gantryLost n s
    else if before = .lost then gantryRecovered n s
    else settled false s
  else reevaluateStation b (n - gantryCount b - 1) s

/-- A node still INTEGRATING at the end of STARTUP becomes LOST, BUSY_EXPIRED as it stands (R168). -/
def loseIntegrating (b : Bore) (n : Nat) (s : State) : State :=
  match node? s n with
  | some r =>
    if r.health = .integrating then
      handHealth b n .integrating .lost (putNode n { r with health := .lost } s)
    else s
  | none => s

/-- Whether a head reports an arrow of any kind (R169). -/
def reportsArrow (h : HeadRecord) : Bool := isArrow h.reported

/-- Whether a head reports CROSS or DARK (R169). -/
def reportsStop (h : HeadRecord) : Bool := decide (h.reported = .cross) || decide (h.reported = .dark)

/-- Whether a lane is recovered OPEN in a direction (R169), by what its heads report: the fallback aspects of a module in
FALLBACK among them (R142). -/
def recoveredOpen (s : State) (r : LaneRecord) (d : Dir) : Bool :=
  let mine := s.heads.filter (fun h => decide (h.lane = r.lane))
  let facing := mine.filter (fun h => decide (h.face = d))
  let other := mine.filter (fun h => decide (h.face = otherDir d))
  !facing.isEmpty && facing.all reportsArrow && other.all reportsStop &&
    mine.all (fun h => !nodeLost s h.gantry) &&
    match ownDir r.kind with
    | some o => decide (o = d)
    | none => true

/-- Direction in which a lane is recovered OPEN, or none for CLOSED, before the pattern is judged (R169). -/
def recoveredDir (s : State) (r : LaneRecord) : Option Dir :=
  if recoveredOpen s r .rising then some .rising
  else if recoveredOpen s r .falling then some .falling
  else none

/-- The recovered directions: every TIDAL lane CLOSED instead where the pattern is illegal (R169). -/
def recoveredPattern (s : State) (b : Bore) : Pattern :=
  let p := s.plan.lanes.map (recoveredDir s)
  if legalPattern b p then p
  else s.plan.lanes.map (fun r => if r.kind = .tidal then none else recoveredDir s r)

/-- Lane recovery after a FRESH STARTUP (R169). -/
def recoverLanes (b : Bore) (s : State) : State :=
  let p := recoveredPattern s b
  (List.range s.plan.lanes.length).foldl (fun t i =>
    match (p[i]?).bind id with
    | some d => modifyLane (i + 1) (LaneRecord.settleAs (some d)) t
    | none => t) s

/-- Entry to RUN (R131, R170). -/
def enterRun (s : State) : State :=
  let s1 := setPart .run s
  let s2 := setInhibit true { s1 with plan := { s1.plan with runClock := 0, runMs := 0 } }
  let s3 := setHold { s2.plan.hold with inputs := activeHolds s2 } s2
  settled true (sampleInputs s3)

/-- End of STARTUP (R168): nodes still INTEGRATING are lost, lanes recovered after a FRESH one, then RUN. -/
def endStartup (b : Bore) (s : State) : State :=
  let s1 := (List.range s.chain.nodes.length).foldl (fun s i => loseIntegrating b (i + 1) s) s
  let s2 := if s1.psc.startupKind = some .fresh then recoverLanes b s1 else s1
  enterRun s2

/-- Whether any node record is INTEGRATING (R168). -/
def anyIntegrating (s : State) : Bool := s.chain.nodes.any (fun r => decide (r.health = .integrating))

/-- The end of a frame in STARTUP: the frame count rises, and STARTUP ends where no node is INTEGRATING or the count
has reached 250 (R168). -/
def startupFrameEnd (b : Bore) (s : State) : State :=
  let s1 := { s with psc := { s.psc with startupFrames := s.psc.startupFrames + 1 } }
  if !anyIntegrating s1 || decide (250 ≤ s1.psc.startupFrames) then endStartup b s1 else s1

/-! ### Restart (R171, R172) -/

/-- A lane record at a restart proper (R18). -/
def LaneRecord.restarted (r : LaneRecord) : LaneRecord :=
  let r1 := { r with overdue := false, conflict := false }
  match r.phase with
  | .opened => r1
  | .closed => r1
  | _ => { r1.settleAs none with conflict := false }

/-- A context at a restart proper (R114). -/
def Ctx.restarted : Ctx → Ctx
  | .active body => .done body.ended .abortedRestart
  | c => c

/-- A Link Unit at a restart proper: as at entry to LOADING, but a reply being sent is completed first (R183). That the
receiver, OVERRUN and the vector are set at the restart, and the unit goes on serving until the reply is sent, is the
model's choice (log 38). -/
def LinkUnit.restarted (u : LinkUnit) : LinkUnit :=
  { u with rx := Receiver.idle, overrun := false, vector := fullVector }

/-- The chain at a restart proper: node records, queue and results formed again, cycle number 0, and the frame under
way cut short once its slot has ended (R137, R138, R144, R155). -/
def Chain.restarted (b : Bore) (c : Chain) : Chain :=
  { Chain.silent with
    frame := c.cutFrame
    untilNext := c.untilNext
    nodes := formNodes b }

/-- A restart proper, taken in RUN or STARTUP (R172). -/
def restartProper (b : Bore) (s : State) : State :=
  let s1 := setStartup .restarted s
  { s1 with
    linkA := s1.linkA.restarted
    linkB := s1.linkB.restarted
    plan := { s.plan with
      lanes := s.plan.lanes.map LaneRecord.restarted
      contexts := s.plan.contexts.map Ctx.restarted
      inhibit := true
      hold := { s.plan.hold with linkA := false, linkB := false }
      runClock := 0
      runMs := 0 }
    count := ⟨formCrossings b, s.count.sections.map SectionRecord.disturb⟩
    heads := s.heads.map (fun h => HeadRecord.formed h.gantry h.lane h.face h.intended)
    inputs := formInputs b.inputs
    chain := s.chain.restarted b }

/-- A restart, by the part state in which it is taken (R171). -/
def takeRestart (s : State) : State :=
  match s.psc.part, s.image with
  | .run, some b => restartProper b s
  | .startup, some b => restartProper b s
  | _, _ => enterLoading s

end Sys2Proof.Machine
end

