-- ==== Sys2Proof/Machine/Chain.lean ====
section
/-! DEFINITION. The Gantry Chain Controller (chapter 07): frames and commands, reply windows, node health, and the
service queue. -/

namespace Sys2Proof.Machine

open Sys2Proof

/-! ### Frames and commands (R136 to R140) -/

/-- Frame kind from the part state (R138). -/
def frameKindOf (s : State) : FrameKind :=
  match s.psc.part with
  | .startup => if s.psc.startupKind = some .restarted then .drive else .hold
  | .config => .closedown
  | _ => .drive

/-- Aspect commanded for a head position in a frame (R139). -/
def commandAspect (s : State) (kind : FrameKind) (g lane : Nat) (d : Dir) : Aspect :=
  match head? s g lane d with
  | none => .dark
  | some h =>
    match kind with
    | .drive => h.intended.aspect
    | .closedown => .cross
    | .hold => .dark

/-- Aspect codes of the twelve head positions of a gantry's command (R139, chapter 10). -/
def commandCodes (s : State) (kind : FrameKind) (g : Nat) : List Nat :=
  (upTo 6).map (fun lane => codeAspect (commandAspect s kind g lane .rising)) ++
    (upTo 6).map (fun lane => codeAspect (commandAspect s kind g lane .falling))

/-- Two head positions to a byte, the lower-numbered in bits 7 to 4 (chapter 10). -/
def packPairs : List Nat → List Byte
  | x :: y :: rest => byte (x * 16 + y) :: packPairs rest
  | _ => []

/-- Whether the command to gantry g in a frame carries the probe flag (R77, R139). -/
def probeFlag (b : Bore) (kind : FrameKind) (cycle g : Nat) : Bool :=
  match from1 b.gantries g with
  | some cfg => probeDue cfg kind cycle
  | none => false

/-- The command block to node n (R139, R140, chapter 10); no block beyond the last node. -/
def nodeCommand (b : Bore) (s : State) (kind : FrameKind) (cycle n : Nat) : List Byte :=
  if n ≤ gantryCount b then
    chainBlock (byte n :: byte (bit01 (probeFlag b kind cycle n)) :: packPairs (commandCodes s kind n))
  else if n ≤ nodeCount b then chainBlock [byte n]
  else []

/-- The header block of a frame (R137, R138, chapter 10). -/
def headerBlock (cycle : Nat) (kind : FrameKind) : List Byte :=
  chainBlock [0xC3#8, byte cycle, byte (codeFrameKind kind)]

/-- What the controller has sent on both channels in the slot under way: the header first of all, then the slot's command
(R135, R136, R192). That the header and node 1's command, which follows it directly, are two transmissions, the driver
enables dropping between them, is the model's choice (log 40). -/
def channelLine (s : State) : List ChannelEvent :=
  match s.chain.frame with
  | none => []
  | some f => (if f.slot = 1 then transmission f.header else []) ++ transmission f.command

/-- Level a channel's driver enable is left at by what passed on it; low at rest. -/
def enableAfter (es : List ChannelEvent) : Bool :=
  es.foldl (fun level e =>
    match e with
    | .driverEnable high => high
    | .byte _ => level) false

/-- Levels of CHAINA_DE and CHAINB_DE as a state stands, between transmissions: driven together (R135). -/
def driverEnables (s : State) : Bool × Bool := (enableAfter (channelLine s), enableAfter (channelLine s))

/-- Cycle number of the last frame ended, once the frame under way has ended too (R137; log 7). -/
def endedCycle (c : Chain) : Option Nat :=
  match c.frame with
  | some f => if f.cut then c.lastEnded else some f.cycle
  | none => c.lastEnded

/-- A chain frame begins: kind from the part state, the next cycle number, the header sent first and then the first
node's command (R136 to R139, R192). -/
def beginFrame (b : Bore) (s : State) : State :=
  let kind := frameKindOf s
  let cycle := s.chain.nextCycle
  { s with
    chain := { s.chain with
      frame := some ⟨cycle, kind, headerBlock cycle kind, 1, nodeCommand b s kind cycle 1, false, false⟩
      nextCycle := (cycle + 1) % 64
      lastEnded := endedCycle s.chain
      untilNext := 20 } }

/-- The slot of node n ends: the next node's command goes out, unless a restart has cut the frame short (R136, R138). -/
def nextSlot (b : Bore) (n : Nat) (s : State) : State :=
  match s.chain.frame with
  | none => s
  | some f =>
    if f.cut then { s with chain := { s.chain with frame := none } }
    else
      { s with
        chain := { s.chain with
          frame := some { f with slot := n + 1, command := nodeCommand b s f.kind f.cycle (n + 1) } } }

/-! ### Node records (R145 to R147) -/

/-- Runs, last status and disagreement count after a window (R143, R145). -/
def NodeRecord.moveRuns (o : WindowOutcome) (r : NodeRecord) : NodeRecord :=
  match o with
  | .valid x =>
    match x.status with
    | .busy => { r with missRun := 0, dataRun := 0, busyRun := min 250 (r.busyRun + 1), lastStatus := some .busy }
    | st => { r with missRun := 0, dataRun := min 50 (r.dataRun + 1), busyRun := 0, lastStatus := some st }
  | .missing => { r with missRun := min 25 (r.missRun + 1), dataRun := 0 }
  | .disagreement =>
    { r with
      missRun := min 25 (r.missRun + 1), dataRun := 0, disagreements := min 255 (r.disagreements + 1) }

/-- Whether a data reply agrees with the reported aspects held at every present head of gantry n (R146). -/
def sameAspects (n : Nat) (r : SlotReply) (s : State) : Bool :=
  (s.heads.filter (fun h => decide (h.gantry = n))).all fun h =>
    decide ((reportFor (headReports false r) h).aspect = h.reported)

/-- Whether a node integrates on an outcome: `old` is its record before the window, `new` after its runs moved (R146). -/
def integrates (s : State) (o : WindowOutcome) (old new : NodeRecord) : Bool :=
  match o with
  | .valid x =>
    decide (x.status ≠ .busy) && decide (2 ≤ new.dataRun) &&
      match new.kind with
      | .station => true
      | .gantry =>
        decide (x.status ≠ .fault) && decide (old.lastStatus ≠ some .fault) && sameAspects new.node x s
  | _ => false

/-- Whether a window's outcome is valid (R143). -/
def WindowOutcome.isValid : WindowOutcome → Bool
  | .valid _ => true
  | _ => false

/-- Whether a BUSY reply leaves the busy run at 250, whether it moved there or stood there already: a valid reply has put
the miss run to 0, and one with data the busy run (R145, R147, R197; log 23). `new` is the record with its runs just
moved. -/
def busyReached (new : NodeRecord) : Bool := decide (new.busyRun = 250) && decide (new.missRun = 0)

/-- Health after a window, judged on the runs just moved (R145; log 24). A LOST node whose data run stands at 50 already is
GOOD at its next data reply: its run is judged by where it stands, the model's choice (log 36). -/
def healthAfter (s : State) (o : WindowOutcome) (old new : NodeRecord) : Health :=
  match old.health with
  | .integrating =>
    if busyReached new then .lost else if integrates s o old new then .good else .integrating
  | .good => if busyReached new then .lost else if new.missRun = 3 then .suspect else .good
  | .suspect =>
    if busyReached new then .lost
    else if o.isValid then .good
    else if new.missRun = 25 then .lost
    else .suspect
  | .lost => if new.dataRun = 50 then .good else .lost

/-- A node record after its reply window (R143, R145, R147). -/
def nodeAfter (s : State) (r : NodeRecord) (a b : Heard) : NodeRecord :=
  let o := windowOutcome r.kind r.node a b
  let r1 := r.moveRuns o
  { r1 with
    answeredA := (slotReply r.kind r.node a).isSome
    answeredB := (slotReply r.kind r.node b).isSome
    health := healthAfter s o r r1
    busyExpired := r.busyExpired || busyReached r1 }

/-! ### The reply window's end (R143, R148) -/

/-- Whether the command in node n's slot carried the probe flag (R193). -/
def probingNow (b : Bore) (s : State) (n : Nat) : Bool :=
  match s.chain.frame with
  | some f => probeFlag b f.kind f.cycle n
  | none => false

/-- A gantry reply handed to the Head Table, which takes nothing for a LOST node (R68, R76). The fallback aspects of a
FALLBACK answer are taken as aspect data, like those of a READY one (R142). -/
def handGantry (b : Bore) (n : Nat) (probing : Bool) (r : SlotReply) (s : State) : State :=
  if nodeLost s n then s
  else
    match r.status with
    | .busy => takeBusyReply n s
    | .fault => takeAspects b n faultReport s
    | _ => takeAspects b n (reportFor (headReports probing r)) s

/-- A valid reply handed on: a gantry's to the Head Table, a station's with loop data to the Occupancy Counting Unit
(R20, R148). -/
def handReply (b : Bore) (n : Nat) (probing : Bool) (o : WindowOutcome) (s : State) : State :=
  match o with
  | .valid r =>
    if n ≤ gantryCount b then handGantry b n probing r s
    else if r.status = .busy then s
    else takeLoops b (n - gantryCount b - 1) (loopReport r) s
  | _ => s

/-- After the last node's window the frame of a STARTUP ends (R168; log 8); a frame cut short does not count. -/
def frameTail (b : Bore) (n : Nat) (s : State) : State :=
  match s.chain.frame with
  | some f =>
    if n = nodeCount b ∧ s.psc.part = .startup ∧ f.cut = false then startupFrameEnd b s else s
  | none => s

/-- Whether the slot under way is node n's: the slots of a frame follow one another in node order, so no other window can
end (R136, R192; log 6). -/
def slotOf (s : State) (n : Nat) : Bool :=
  match s.chain.frame with
  | some f => decide (f.slot = n)
  | none => false

/-- The end of node n's reply window on a polling chain: the record moves, a change of health is handed on, then a valid
reply, then the slot passes to the next node (R143, R145, R148). -/
def takeWindow (bore : Bore) (n : Nat) (r : NodeRecord) (a b : Heard) (s : State) : State :=
  let r1 := nodeAfter s r a b
  let probing := probingNow bore s n
  let s1 := handHealth bore n r.health r1.health (putNode n r1 s)
  let s2 := handReply bore n probing (windowOutcome r.kind r.node a b) s1
  nextSlot bore n (frameTail bore n s2)

/-- A slot in progress that outlasted its part state ends, and the chain falls silent; what was heard is disregarded
(R135, R138, R160). -/
def endCutSlot (s : State) : State :=
  { s with chain := { s.chain with frame := s.chain.frame.filter (fun f => !f.cut) } }

/-- The end of node n's reply window, where it is node n's slot. -/
def windowEnd (n : Nat) (a b : Heard) (s : State) : State :=
  if slotOf s n then
    match s.image, node? s n with
    | some bore, some r => if polls s then takeWindow bore n r a b s else endCutSlot s
    | _, _ => endCutSlot s
  else s

/-- The node record before and after a window end, where the window can end: node n's slot on a polling chain. -/
def windowRecord (n : Nat) (a b : Heard) (s : State) : Option (NodeRecord × NodeRecord) :=
  match node? s n with
  | some r => if polls s && slotOf s n then some (r, nodeAfter s r a b) else none
  | none => none

/-- A window end that has a named consequence for its node: taken where `p` holds of the record before and after, and
no event at all where it does not (log 3). -/
def namedWindow (p : NodeRecord → NodeRecord → Bool) (n : Nat) (a b : Heard) (s : State) : State :=
  match windowRecord n a b s with
  | some (r, r1) => if p r r1 then windowEnd n a b s else s
  | none => s

/-- The report a window brings one head of a gantry that takes it: aspect data of a valid reply, after the change of
health the same window brings (R68, R76, R148). -/
def reportInWindow (n : Nat) (a b : Heard) (s : State) (h : HeadRecord) : Option HeadReport :=
  match s.image, node? s n, windowRecord n a b s with
  | some bore, some r, some (_, r1) =>
    if r1.health = .lost then none
    else
      match windowOutcome r.kind r.node a b with
      | .valid x =>
        match x.status with
        | .busy => none
        | .fault => some (faultReport h)
        | _ => some (reportFor (headReports (probingNow bore s n) x) h)
      | _ => none
  | _, _, _ => none

/-- A window end of a gantry with a named consequence for one of its heads, judged on the head's record before the
window and the report it takes (log 3). -/
def namedHeadWindow (p : Bore → HeadReport → HeadRecord → Bool) (g lane : Nat) (d : Dir) (a b : Heard) (s : State) :
    State :=
  match s.image, head? s g lane d with
  | some bore, some h =>
    match reportInWindow g a b s h with
    | some rep => if working s && p bore rep h then windowEnd g a b s else s
    | none => s
  | _, _ => s

/-! ### The service queue (R149 to R153) -/

/-- The service command block (chapter 10). -/
def serviceCommand (e : ServiceEntry) : List Byte := chainBlock [byte e.node, byte (codeOperation e.operation)]

/-- Whether the node slots of a frame are over, so that its service slot is next (R136, R192). -/
def slotsOver (b : Bore) (f : Frame) : Bool := !f.cut && decide (f.slot = nodeCount b + 1)

/-- The service slot begins, after the last node's window: a QUEUED head entry becomes IN_FLIGHT and its command is sent
(R136, R151, R192). Before that window's end there is no such event (log 6). -/
def beginService (s : State) : State :=
  match s.image, s.chain.frame with
  | some b, some f =>
    if polls s && !f.serviceBegun && slotsOver b f then
      match s.chain.queue with
      | e :: rest =>
        if e.inFlight then { s with chain := { s.chain with frame := some { f with serviceBegun := true } } }
        else
          { s with
            chain := { s.chain with
              frame := some { f with serviceBegun := true, command := serviceCommand e }
              queue := { e with inFlight := true } :: rest } }
      | [] => { s with chain := { s.chain with frame := some { f with serviceBegun := true } } }
    else s
  | _, _ => s

/-- Whether nothing of a frame is left but its idle time: its node slots over, and its service slot begun and its
transaction complete, or none to dispatch (R136, R151). -/
def frameOver (b : Bore) (f : Frame) (queue : List ServiceEntry) : Bool :=
  slotsOver b f &&
    match queue with
    | [] => true
    | e :: _ => f.serviceBegun && !e.inFlight

/-- Kind of node n (R136). -/
def kindOf (b : Bore) (n : Nat) : NodeKind := if n ≤ gantryCount b then .gantry else .station

/-- Result of a transaction from what the two channels delivered (R152). -/
def serviceOutcome (kind : NodeKind) (e : ServiceEntry) (cycle : Nat) (a b : Heard) : ServiceResult :=
  let done := fun (r : ServiceReply) => (⟨e.node, e.operation, .done, cycle, some r.status, r.data⟩ : ServiceResult)
  match serviceReply kind e a, serviceReply kind e b with
  | none, none => ⟨e.node, e.operation, .noReply, cycle, none, []⟩
  | some r, none => done r
  | none, some r => done r
  | some r, some _ =>
    if a = b then done r else ⟨e.node, e.operation, .disagree, cycle, none, []⟩

/-- The head reports of a PROBE_NOW result: twelve position bytes, each with its probe result (R153, chapter 10). -/
def probeNowReports (data : List Byte) : List HeadReport :=
  data.map (fun p => ⟨(positionAspect p).getD .unknown, positionStrings p, some (positionPass p)⟩)

/-- The further effect of a completed transaction: the probe results of a DONE PROBE_NOW that carries them (R153). -/
def serviceEffect (r : ServiceResult) (s : State) : State :=
  match r.operation, r.status with
  | .probeNow, some st =>
    if carriesData st && !nodeLost s r.node then takeProbes r.node (probeNowReports r.data) s else s
  | _, _ => s

/-- The service reply window ends: the transaction in flight completes, its result goes to its origin link's record and
SERVICE flag, and leaves the queue (R152). -/
def endService (a b : Heard) (s : State) : State :=
  match s.image, s.chain.frame, s.chain.queue with
  | some bore, some f, e :: rest =>
    if polls s && f.serviceBegun && e.inFlight then
      let r := serviceOutcome (kindOf bore e.node) e f.cycle a b
      let s1 := { s with chain := { s.chain with queue := rest } }
      serviceEffect r ((setResult e.origin (some r) s1).reportTo e.origin flagService)
    else s
  | _, _, _ => s

end Sys2Proof.Machine
end

