-- ==== Sys2Proof/Machine/Loader.lean ====
section
/-! DEFINITION. The Configuration Loader (chapter 08, image layout of chapter 10): attempts and retries, the header, and
the CRC, range, order and pattern passes. -/

namespace Sys2Proof.Machine

open Sys2Proof

/-! ### Faults of a load -/

/-- LOAD_RANGE against a table and entry. -/
def rangeFault (t : ImageTable) (e : Option Nat) : LoadFault := ⟨.range, t, e⟩

/-- A check of the passes: nothing where it holds, the fault where it does not. -/
def ensure (ok : Bool) (f : LoadFault) : Except LoadFault Unit := if ok then .ok () else .error f

/-- A failed load: fault record written, FAULT entered, recorded in PART (R159, R165). -/
def failLoad (f : LoadFault) (s : State) : State :=
  setPart .fault
    { s with
      loader := { s.loader with phase := .idle, failed := 0, waitMs := 0 }
      psc := { s.psc with loadFault := f } }

/-! ### Header (R163) -/

/-- Format tag of an image header (chapter 10). -/
def formatTag : List Byte := [0x54#8, 0x46#8, 0x34#8, 0x38#8]

/-- Total length field of a header. -/
def headerLength (h : List Byte) : Nat := field16 h 6

/-- CRC-32 field of a header. -/
def headerCrc (h : List Byte) : BitVec 32 := BitVec.ofNat 32 (ofBE ((h.drop 8).take 4))

/-- Whether a header is accepted: tag, version 1, total length 17 to 8192 (R163). -/
def headerGood (h : List Byte) : Bool :=
  decide (h.take 4 = formatTag) && decide (field16 h 4 = 1) && decide (17 ≤ headerLength h) &&
    decide (headerLength h ≤ 8192)

/-! ### Range pass (R164, R195) -/

/-- Whether a number lies in a range, both ends included. -/
def within (lo hi n : Nat) : Bool := decide (lo ≤ n) && decide (n ≤ hi)

/-- A lane kind code. -/
def kindOfCode (n : Nat) : Option LaneKind :=
  match n with
  | 0 => some .fixedRising
  | 1 => some .fixedFalling
  | 2 => some .tidal
  | _ => none

/-- An escape preference code. -/
def escapeOfCode (n : Nat) : Option Escape :=
  match n with
  | 0 => some .lo
  | 1 => some .hi
  | _ => none

/-- A gantry role code. -/
def roleOfCode (n : Nat) : Option Role :=
  match n with
  | 0 => some .approach1
  | 1 => some .body
  | 2 => some .approach2
  | _ => none

/-- A polarity code. -/
def polarityOfCode (n : Nat) : Option Polarity :=
  match n with
  | 0 => some .activeOpen
  | 1 => some .activeClosed
  | _ => none

/-- A filter time code. -/
def filterOfCode (n : Nat) : Option FilterTime :=
  match n with
  | 0 => some .ms10
  | 1 => some .ms50
  | 2 => some .ms200
  | 3 => some .ms1000
  | _ => none

/-- A function code with its target byte; the target is judged against the zone count (R126, R195). -/
def functionOfCode (zones code target : Nat) : Option InputFunction :=
  match code with
  | 0 => if target = 0 then some .unrouted else none
  | 1 => if within 1 zones target then some (.zoneStop target) else none
  | 2 => if within 1 2 target then some (.portalStop target) else none
  | 3 => if target = 0 then some .sequenceHold else none
  | 4 => if target = 0 then some (.lockLink .a) else none
  | 5 => if target = 0 then some (.lockLink .b) else none
  | _ => none

/-- A field code, or the fault of its entry where it is none of its set (R195). -/
def codeOr {α : Type} (f : LoadFault) (o : Option α) : Except LoadFault α :=
  match o with
  | some x => .ok x
  | none => .error f

/-- Whether a table of `size` bytes at `at` runs past the body (R164). -/
def runsPast (body : List Byte) (pos size : Nat) : Bool := decide (body.length < pos + size)

/-- Bore table: the settings in table order; whether the lanes table runs past is judged once the lane count is in
range (R11, R164). Answers the lane count and a bore with no tables yet. -/
def readBore (body : List Byte) : Except LoadFault (Nat × Bore) := do
  let bad := rangeFault .bore none
  ensure (!runsPast body 0 14) bad
  let n := field body 0
  ensure (within 2 6 n) bad
  ensure (!runsPast body 14 (2 * n)) (rangeFault .lanes none)
  ensure (within 0 1 (field body 1)) bad
  ensure (within 0 1 (field body 2)) bad
  ensure (within 0 1000 (field16 body 3)) bad
  ensure (within 4 10 (field body 5)) bad
  ensure (within 5 60 (field body 6)) bad
  ensure (within 5 120 (field body 7)) bad
  ensure (within 60 3600 (field16 body 8)) bad
  ensure (within 10 300 (field16 body 10)) bad
  ensure (within 5 50 (field body 12)) bad
  ensure (within 0 15 (field body 13)) bad
  return (n,
    { risingSide := if field body 1 = 0 then .lo else .hi
      bufferRequired := decide (field body 2 = 1)
      leadIn := field16 body 3
      pitch := field body 5
      crawl := field body 6
      minHold := field body 7
      clearingTimeout := field16 body 8
      restoreWindow := field16 body 10
      proofTimeout := field body 12
      lampLimit := field body 13
      lanes := [], gantries := [], stations := [], zones := [], inputs := [] })

/-- Lane entry i, counted from 0 (R2, R3). -/
def readLane (body : List Byte) (i : Nat) : Except LoadFault LaneCfg := do
  let bad := rangeFault .lanes (some (i + 1))
  let kind ← codeOr bad (kindOfCode (field body (14 + 2 * i)))
  let escape ← codeOr bad (escapeOfCode (field body (14 + 2 * i + 1)))
  return ⟨kind, escape⟩

/-- Whether a presence word may stand for a role and lane count: no reserved bit, no lane above n, no falling head on
APPROACH_1, no rising head on APPROACH_2 (R5, R195). -/
def presenceGood (n : Nat) (role : Role) (w : BitVec 16) : Bool :=
  (List.range 16).all fun i =>
    !w.getLsbD i ||
      (if i < 8 then decide (i < n) && decide (role ≠ .approach2)
        else decide (i - 8 < n) && decide (role ≠ .approach1))

/-- Gantry entry i, counted from 0, at a place in the body (R4, R5, R77). -/
def readGantry (n : Nat) (body : List Byte) (pos i : Nat) : Except LoadFault GantryCfg := do
  let bad := rangeFault .gantries (some (i + 1))
  let c := field16 body pos
  ensure (within 0 8000 c) bad
  let role ← codeOr bad (roleOfCode (field body (pos + 2)))
  let presence := BitVec.ofNat 16 (field16 body (pos + 3))
  ensure (presenceGood n role presence) bad
  let k := field body (pos + 5)
  ensure (within 0 6 k) bad
  let o := field body (pos + 6)
  ensure (decide (o < 2 ^ k)) bad
  return ⟨c, role, presence, k, o⟩

/-- Station entry k (R8). -/
def readStation (body : List Byte) (pos k : Nat) : Except LoadFault StationCfg := do
  let bad := rangeFault .stations (some k)
  let c := field16 body pos
  ensure (within 0 8000 c) bad
  let p := field body (pos + 2)
  ensure (within 1 3 p) bad
  return ⟨c, p⟩

/-- Zone entry i, counted from 0 (R10). -/
def readZone (body : List Byte) (pos i : Nat) : Except LoadFault ZoneCfg := do
  let bad := rangeFault .zones (some (i + 1))
  let c1 := field16 body pos
  ensure (within 0 8000 c1) bad
  let c2 := field16 body (pos + 2)
  ensure (within 0 8000 c2) bad
  ensure (decide (c1 < c2)) bad
  return ⟨c1, c2⟩

/-- Input entry i (R126, R195). -/
def readInput (zones : Nat) (body : List Byte) (pos i : Nat) : Except LoadFault InputCfg := do
  let bad := rangeFault .inputs (some i)
  let function ← codeOr bad (functionOfCode zones (field body pos) (field body (pos + 1)))
  let polarity ← codeOr bad (polarityOfCode (field body (pos + 2)))
  let filter ← codeOr bad (filterOfCode (field body (pos + 3)))
  return ⟨function, polarity, filter⟩

/-- The entries of a table of fixed entry size, in order, the first fault ending the pass. -/
def readEntries {α : Type} (size : Nat) (read : Nat → Nat → Except LoadFault α) (pos count : Nat) :
    Except LoadFault (List α) :=
  (List.range count).mapM (fun i => read (pos + size * i) i)

/-- A counted table: its count byte and its extent judged before any entry is read (R164). -/
def readCounted {α : Type} (t : ImageTable) (lo hi size : Nat) (read : Nat → Nat → Except LoadFault α)
    (body : List Byte) (pos : Nat) : Except LoadFault (List α) := do
  ensure (!runsPast body pos 1) (rangeFault t none)
  let count := field body pos
  ensure (within lo hi count) (rangeFault t none)
  ensure (!runsPast body (pos + 1) (size * count)) (rangeFault t none)
  readEntries size read (pos + 1) count

/-- The range pass over the image body, answering the bore it holds (R164). A table that runs past the body, and bytes left
over after the last, are faults with no entry named (log 20). -/
def rangePass (body : List Byte) : Except LoadFault Bore := do
  let (n, b) ← readBore body
  let lanes ← (List.range n).mapM (readLane body)
  let tidal := (lanes.filter (fun l => decide (l.kind = .tidal))).length
  ensure (within 1 4 tidal) (rangeFault .lanes none)
  let gAt := 14 + 2 * n
  let gantries ← readCounted .gantries 1 48 7 (readGantry n body) body gAt
  let sAt := gAt + 1 + 7 * gantries.length
  let stations ← readCounted .stations 2 20 3 (readStation body) body sAt
  let zAt := sAt + 1 + 3 * stations.length
  let zones ← readCounted .zones 1 8 4 (readZone body) body zAt
  let iAt := zAt + 1 + 4 * zones.length
  ensure (!runsPast body iAt 64) (rangeFault .inputs none)
  let inputs ← readEntries 4 (readInput zones.length body) iAt 16
  ensure (decide (body.length = iAt + 64)) (rangeFault .inputs none)
  return { b with lanes, gantries, stations, zones, inputs }

/-! ### Order and pattern passes (R164) -/

/-- Whether gantry i, counted from 0, offends the order: chainage not above the one before it, or a role that must
come before one already met (R4; log 21). -/
def gantryOffends (b : Bore) (i : Nat) : Bool :=
  match b.gantries[i]? with
  | none => false
  | some g =>
    let before := b.gantries.take i
    before.any (fun h => decide (g.chainage ≤ h.chainage)) ||
      (match g.role with
        | .approach1 => before.any (fun h => decide (h.role = .body))
        | .body => before.any (fun h => decide (h.role = .approach2))
        | .approach2 => false)

/-- Whether station k offends the order: its section from the station before is not 20 to 2000 m (R8, R9). -/
def stationOffends (b : Bore) (k : Nat) : Bool :=
  decide (1 ≤ k) && !(decide (stationC b (k - 1) + 20 ≤ stationC b k) &&
    decide (stationC b k ≤ stationC b (k - 1) + 2000))

/-- The order pass (R164). -/
def orderPass (b : Bore) : Except LoadFault Unit :=
  match (List.range (gantryCount b)).find? (gantryOffends b) with
  | some i => .error ⟨.order, .gantries, some (i + 1)⟩
  | none =>
    match (List.range (stationCount b)).find? (stationOffends b) with
    | some k => .error ⟨.order, .stations, some k⟩
    | none => .ok ()

/-- The pattern pass (R12, R164). -/
def patternPass (b : Bore) : Except LoadFault Unit :=
  ensure (legalPattern b (fixedPattern b)) ⟨.pattern, .lanes, none⟩

/-- Judge an image body against the header's CRC and in the three passes (R163, R164). -/
def judgeBody (crc : BitVec 32) (body : List Byte) : Except LoadFault Bore := do
  ensure (decide (crc32 body = crc)) ⟨.crc, .unset, none⟩
  let b ← rangePass body
  orderPass b
  patternPass b
  return b

/-! ### Attempts (R162) -/

/-- The 7-bit device address of the configuration memory. -/
def deviceAddress : Nat := 0x3A

/-- The device address sent to write and to read: 0x74 and 0x75. -/
def deviceByte (read : Bool) : Byte := byte (2 * deviceAddress + bit01 read)

/-- Memory address at which a transaction reads: the header at 0, the body at 16. -/
def memoryAddress : Transaction → Nat
  | .header => 0
  | .body => 16

/-- What an attempt at a transaction sends before it reads: start, device address to write, memory address high byte
first, repeated start, device address to read. -/
def addressing (t : Transaction) : List BusEvent :=
  [.start, .send (deviceByte false)] ++ (be16 (memoryAddress t)).map .send ++ [.start, .send (deviceByte true)]

/-- Data bytes as a transaction reads them: each acknowledged but the last, and a stop condition at the end. -/
def dataRead (bytes : List Byte) : List BusEvent :=
  bytes.mapIdx (fun i b => .read b (decide (i + 1 < bytes.length))) ++ [.stop]

/-- The data bytes of the attempt in hand pass on the bus. -/
def readBus (bytes : List Byte) (s : State) : State :=
  { s with loader := { s.loader with bus := s.loader.bus ++ dataRead bytes } }

/-- A failed attempt: the fourth of a transaction ends the load, an earlier one is followed by a wait of 10 ms (R162). What
it had sent is not kept, since the event does not say which byte was not acknowledged (log 37). -/
def attemptFailed (s : State) : State :=
  if 3 ≤ s.loader.failed then failLoad ⟨.noAck, .unset, none⟩ { s with loader := { s.loader with bus := [] } }
  else { s with loader := { s.loader with phase := .waiting, failed := s.loader.failed + 1, waitMs := 0, bus := [] } }

/-- Whether the loader stands at an attempt phase, in LOADING with RESET_N high. -/
def loaderAt (s : State) (t : Transaction) (p : AttemptPhase) : Bool :=
  !s.pins.resetLow && decide (s.psc.part = .loading) && decide (s.loader.transaction = t) &&
    decide (s.loader.phase = p)

/-- Whether the loader stands at an attempt phase of either transaction. -/
def loaderIn (s : State) (p : AttemptPhase) : Bool := loaderAt s .header p || loaderAt s .body p

/-- The header read has ended: judged, and the body read falls due (R163). -/
def takeHeader (h : List Byte) (s : State) : State :=
  if headerGood h then
    { s with loader := ⟨.body, .due, 0, 0, headerLength h, headerCrc h, s.loader.bus⟩ }
  else failLoad ⟨.format, .unset, none⟩ s

/-- The body read has ended: judged and accepted, or the load ends in FAULT (R163 to R166). -/
def takeBody (body : List Byte) (s : State) : State :=
  match judgeBody s.loader.crc body with
  | .ok b => acceptImage b s
  | .error f => failLoad f s

end Sys2Proof.Machine
end

