-- ==== Sys2Proof/Machine/Links.lean ====
section
/-! DEFINITION. The Link Units (chapter 09): the receiver, the checks every request passes, serving and replies. -/

namespace Sys2Proof.Machine

open Sys2Proof

/-! ### The receiver (R177, R178) -/

/-- What one line event makes of the receiver: it goes on, discards a partial frame, or takes a frame. -/
inductive RxResult
  | more
  | dropped
  | discarded
  | taken (payload : List Byte)
  deriving DecidableEq, Repr

/-- The receiver on one byte or framing error (R177, R178). -/
def Receiver.step (r : Receiver) (e : LineEvent) : Receiver × RxResult :=
  match r.phase, e with
  | .awaitStart, .byte b =>
    if b = 0xA5#8 then ({ Receiver.idle with phase := .awaitLength }, .more) else (Receiver.idle, .dropped)
  | .awaitStart, .framingError => (Receiver.idle, .dropped)
  | .awaitLength, .byte b =>
    if b.toNat = 0 ∨ 200 < b.toNat then (Receiver.idle, .discarded)
    else (⟨.payload, b.toNat, [], []⟩, .more)
  | .payload, .byte b =>
    let p := r.payload ++ [b]
    ({ r with payload := p, phase := if p.length = r.length then .crc else .payload }, .more)
  | .crc, .byte b =>
    match r.crc with
    | [] => ({ r with crc := [b] }, .more)
    | hi =>
      if hi ++ [b] = be16 (crc16 (byte r.length :: r.payload)).toNat then (Receiver.idle, .taken r.payload)
      else (Receiver.idle, .discarded)
  | _, .framingError => (Receiver.idle, .discarded)

/-- The receiver over a run of line events: where it ends, what the last event did, and whether any frame was taken. -/
def Receiver.run : Receiver → List LineEvent → Receiver × RxResult × Bool
  | r, [] => (r, .more, false)
  | r, e :: es =>
    let q := r.step e
    let hit := match q.2 with
      | .taken _ => true
      | _ => false
    match es with
    | [] => (q.1, q.2, hit)
    | _ :: _ =>
      let rest := Receiver.run q.1 es
      (rest.1, rest.2.1, hit || rest.2.2)

/-- Write a unit's receiver. -/
def setRx (l : Link) (r : Receiver) (s : State) : State :=
  s.setUnit l { s.unit l with rx := r }

/-! ### Checks and replies (R179 to R182) -/

/-- What the owning block answers: a status, the data of an OK reply, and what waits for the reply's last byte. -/
structure Answer where
  status : Status
  data : List Byte
  action : ReplyAction
  deriving DecidableEq, Repr

/-- An answer without data. -/
def Answer.plain (st : Status) : Answer := ⟨st, [], .unset⟩

/-- OK with data. -/
def Answer.ok (data : List Byte) : Answer := ⟨.ok, data, .unset⟩

/-- Payload of a reply: the code echoed, the status, and the data of an OK reply alone (R182). -/
def replyPayload (code : Nat) (a : Answer) : List Byte :=
  byte code :: byte (codeReplyStatus a.status) :: (if a.status = .ok then a.data else [])

/-- The unit starts serving: the request held and its reply due (R179, R182). -/
def beginReply (l : Link) (code : Nat) (fields : List Byte) (a : Answer) (s : State) : State :=
  s.setUnit l
    { s.unit l with
      serving := true
      exchange := some ⟨byte code :: fields, replyPayload code a, a.action, 0⟩ }

/-- Part states that admit a request code, LOADING apart (R181). -/
def admits (code : Nat) (p : PartState) : Bool :=
  if code < 0x20 then true
  else if code ≤ 0x30 then decide (p = .run)
  else if code = 0x31 then decide (p ≠ .startup)
  else true

/-- The request codes of the manual (R188, chapter 10). -/
def isRequestCode (code : Nat) : Bool :=
  within 0x10 0x1A code || within 0x20 0x2D code || within 0x30 0x32 code

/-- A frame taken while the unit serves: discarded without reply, OVERRUN set (R180). -/
def markOverrun (l : Link) (s : State) : State :=
  s.setUnit l { s.unit l with rx := Receiver.idle, overrun := true }

/-- A frame taken in LOADING: discarded without reply, no flag set (R181 check 1). -/
def discardFrame (l : Link) (s : State) : State := setRx l Receiver.idle s

/-- The reply that has a unit's transmit line: the oldest of those leaving, or else the one due (R179). -/
def LinkUnit.sending (u : LinkUnit) : Option (List Byte) :=
  match u.leaving with
  | r :: _ => some r.reply
  | [] => u.exchange.map (·.reply)

/-- Levels a unit puts on its transmit line for the reply it sends, the bytes back to back; idle high before and after
(R176, R179). -/
def transmitBits (u : LinkUnit) : List Bool :=
  match u.sending with
  | some reply => (linkFrame reply).flatMap serialBits
  | none => []

/-- The checks of R181 after the frame is known to be served: gating, lock, length; 0 where all pass. -/
def linkCheck (s : State) (l : Link) (code : Nat) (lengthOk : Bool) : Option Status :=
  if !admits code s.psc.part then some .state
  else if locked s l && decide (0x20 ≤ code) then some .locked
  else if !lengthOk then some .format
  else none

/-- A request frame taken on a link (R179 to R182). `body` is the owning block's service of it; `lengthOk` says whether
the payload has the length its layout fixes. -/
def serve (code : Nat) (lengthOk : List Byte → Bool) (body : Link → List Byte → State → State × Answer) (l : Link)
    (fields : List Byte) (s : State) : State :=
  if s.pins.resetLow then s
  else if s.psc.part = .loading then discardFrame l s
  else if (s.unit l).serving then markOverrun l s
  else
    let s0 := setRx l Receiver.idle s
    match linkCheck s0 l code (lengthOk fields) with
    | some st => beginReply l code fields (Answer.plain st) s0
    | none =>
      let r := body l fields s0
      beginReply l code fields r.2 r.1

/-- Layout of a fixed number of bytes after the code. -/
def exactly (n : Nat) (fields : List Byte) : Bool := decide (fields.length = n)

/-- CHANGE passes the unit's length check with at least its count byte (R181 check 5). -/
def atLeastOne (fields : List Byte) : Bool := decide (1 ≤ fields.length)

/-! ### The end of a reply (R179, R160, R171) -/

/-- The last byte of the reply due is sent: the unit stops serving, and a RELOAD or RESTART it carried takes effect. -/
def finishExchange (l : Link) (s : State) : State :=
  let u := s.unit l
  match u.exchange with
  | none => s
  | some e =>
    let s1 := s.setUnit l { u with serving := false, exchange := none }
    match e.action with
    | .unset => s1
    | .reload => enterLoading s1
    | .restart => takeRestart s1

/-- The last byte of a reply is sent: of the oldest reply leaving where there is one, since that is sent in full before
the next begins, and otherwise of the reply due (R179). -/
def finishReply (l : Link) (s : State) : State :=
  match (s.unit l).leaving with
  | _ :: rest => s.setUnit l { s.unit l with leaving := rest }
  | [] => finishExchange l s

/-- Latest moment of a reply's last byte, in ms times 115 200: 10 ms to begin, then its bytes back to back (R176,
R179; log 16). -/
def replyBound (reply : List Byte) : Nat := 10 * 115200 + (reply.length + 4) * 10 * 1000

/-! ### The meanings of the link events -/

/-- UNKNOWN_REQUEST_CODE: answered FORMAT with the code echoed (R181 check 2, R182). -/
def execUnknownRequestCode (l : Link) (payload : List Byte) (s : State) : Out :=
  match payload with
  | [] => .next s
  | code :: fields =>
    if isRequestCode code.toNat then .next s
    else if s.pins.resetLow then .next s
    else if s.psc.part = .loading then .next (discardFrame l s)
    else if (s.unit l).serving then .next (markOverrun l s)
    else .next (beginReply l code.toNat fields (Answer.plain .format) (setRx l Receiver.idle s))

/-- OVERRUN: a frame taken while the unit is serving (R180). -/
def execOverrun (l : Link) (_payload : List Byte) (s : State) : Out :=
  if s.pins.resetLow then .next s
  else if s.psc.part = .loading then .next (discardFrame l s)
  else if (s.unit l).serving then .next (markOverrun l s)
  else .next s

/-- LINK_FRAME_DISCARD: the line events are received, the last of them discarding a partial frame (R178; log 18). -/
def execLinkFrameDiscard (l : Link) (events : List LineEvent) (s : State) : Out :=
  if s.pins.resetLow then .next s
  else
    let q := (s.unit l).rx.run events
    if q.2.1 = .discarded ∧ q.2.2 = false then .next (setRx l q.1 s) else .next s

/-- LINK_GAP_TIMEOUT: the partial frame left by the line events is discarded after more than 5 ms of quiet, and the
late event is judged afresh (R178; log 18). -/
def execLinkGapTimeout (l : Link) (events : List LineEvent) (late : LineEvent) (s : State) : Out :=
  if s.pins.resetLow then .next s
  else
    let q := (s.unit l).rx.run events
    if q.1.phase ≠ .awaitStart ∧ q.2.2 = false then .next (setRx l (Receiver.idle.step late).1 s) else .next s

/-- REPLY_SENT (R179). -/
def execReplySent (l : Link) (s : State) : Out :=
  if s.pins.resetLow then .next s else .next (finishReply l s)

end Sys2Proof.Machine
end

