-- ==== Sys2Proof/Machine/Events.lean ====
section
/-! DEFINITION. The events: resets and restart, contacts and filters, chain windows and service slot, timers, and the
steps of a load. While RESET_N is low every block is held, so only RESET_N and the contact lines move (R160; log 28). -/

namespace Sys2Proof.Machine

open Sys2Proof

/-- An event that finds RESET_N high takes its effect, and none otherwise (R160, R183). -/
def unlessReset (f : State → State) (s : State) : State := if s.pins.resetLow then s else f s

/-! ### Resets and restart (R160, R171, R183) -/

/-- RESET_N_ASSERT: every block held in its reset condition, a reply being sent cut off (R183). -/
def execResetNAssert (s : State) : Out := .next (fullReset true s)

/-- RESET_N_RELEASE or power-up: a full reset, and LOADING begins (R160; log 27). -/
def execResetNRelease (s : State) : Out := .next (fullReset false s)

/-- RESTART_N_FALL: a restart, by the part state; none while RESET_N is low (R171). -/
def execRestartNFall (s : State) : Out := .next (unlessReset takeRestart s)

/-! ### Emergency inputs (R127, R128) -/

/-- Put an input's pending time back to 0. -/
def clearPending (i : Nat) (s : State) : State :=
  match s.inputs[i]? with
  | some r => { s with inputs := s.inputs.set i { r with pending := 0 } }
  | none => s

/-- A contact line moves to a level: a departure runs its pending time from 0, a return puts it back to 0; a level the
line already has is no movement (R127). -/
def moveContact (i : Nat) (level : Contact) (s : State) : State :=
  if s.pins.contacts[i]? = some level then s
  else clearPending i { s with pins := { s.pins with contacts := s.pins.contacts.set i level } }

/-- EIN_CONTACT_CHANGE. -/
def execEinContactChange (i : Nat) (level : Contact) (s : State) : Out := .next (moveContact i level s)

/-- The filtered level changes to the level the contact stands at, is recorded in INPUTS and handed on (R127, R128). -/
def filterLevel (i : Nat) (s : State) : State :=
  match s.inputs[i]? with
  | none => s
  | some r =>
    if inputDeparted s i r && decide (filterMs r.cfg.filter ≤ r.pending) then
      handInput i r.cfg.function (!r.active)
        ({ s with inputs := s.inputs.set i { r with active := !r.active, pending := 0 } }.report (flagInput i))
    else s

/-- FILTERED_LEVEL_CHANGE: where the pending time has reached the filter time (R127; log 4). -/
def execFilteredLevelChange (i : Nat) (s : State) : Out := .next (unlessReset (filterLevel i) s)

/-! ### Chain frames and reply windows (R136 to R148) -/

/-- Whether the next chain frame can begin: none is under way, or nothing of it is left but idle time, whose length the
sender decides (R136; logs 5, 6). -/
def frameReady (b : Bore) (c : Chain) : Bool :=
  match c.frame with
  | some f => frameOver b f c.queue
  | none => true

/-- A chain frame begins where the chain polls and the frame before it is over; sent earlier it is no event, and sent before
the 20 ms are over, with idle time alone left, it is taken (R136; logs 5, 6). -/
def frameStart (s : State) : State :=
  match s.image with
  | some b => if polls s && frameReady b s.chain then beginFrame b s else s
  | none => s

/-- CHAIN_FRAME_START (R136, R138). -/
def execChainFrameStart (s : State) : Out := .next (frameStart s)

/-- NODE_REPLY_WINDOW_END (R143, R148). -/
def execNodeReplyWindowEnd (n : Nat) (a b : Heard) (s : State) : Out := .next (windowEnd n a b s)

/-- BUSY_EXPIRY: a BUSY reply leaves the busy run at 250 in this window (R147; log 23). -/
def execBusyExpiry (n : Nat) (a b : Heard) (s : State) : Out := .next (namedWindow (fun _ new => busyReached new) n a b s)

/-- The miss run reaches 25 and a SUSPECT node becomes LOST (R145). -/
def missLost (old new : NodeRecord) : Bool :=
  decide (old.health = .suspect) && decide (new.health = .lost) && decide (new.missRun = 25)

/-- NODE_LOST (R145). -/
def execNodeLost (n : Nat) (a b : Heard) (s : State) : Out := .next (namedWindow missLost n a b s)

/-- A GOOD node becomes SUSPECT (R145). -/
def missSuspect (old new : NodeRecord) : Bool := decide (old.health = .good) && decide (new.health = .suspect)

/-- NODE_SUSPECT (R145). -/
def execNodeSuspect (n : Nat) (a b : Heard) (s : State) : Out := .next (namedWindow missSuspect n a b s)

/-- A LOST node becomes GOOD (R145). -/
def recoveredGood (old new : NodeRecord) : Bool := decide (old.health = .lost) && decide (new.health = .good)

/-- NODE_RECOVERED (R145). -/
def execNodeRecovered (n : Nat) (a b : Heard) (s : State) : Out := .next (namedWindow recoveredGood n a b s)

/-- Whether a proof state counts replies toward the proof timeout: UNKNOWN, or AWAITING with no debounce (R71). -/
def Proof.timesOut : Proof → Bool
  | .unknown => true
  | .awaiting .unset => true
  | _ => false

/-- A reply that takes a head's proof counter to the proof timeout (R71). -/
def reachesTimeout (b : Bore) (rep : HeadReport) (h : HeadRecord) : Bool :=
  h.proof.timesOut && !matchesIntended h rep.aspect && decide (h.counter + 1 = b.proofTimeout)

/-- PROOF_TIMEOUT (R71). -/
def execProofTimeout (g lane : Nat) (d : Dir) (a b : Heard) (s : State) : Out :=
  .next (namedHeadWindow reachesTimeout g lane d a b s)

/-- A reply that completes a FAILED head's recovery run (R75, R79). -/
def completesRun (b : Bore) (rep : HeadReport) (h : HeadRecord) : Bool :=
  h.proof.isFailed && decide ((takeAspect b rep.aspect rep.strings h).proof = .proven)

/-- RECOVERY_RUN_COMPLETE (R75). -/
def execRecoveryRunComplete (g lane : Nat) (d : Dir) (a b : Heard) (s : State) : Out :=
  .next (namedHeadWindow completesRun g lane d a b s)

/-- A reply at which a head becomes a wrong arrow (R84). -/
def raisesWrongArrow (_b : Bore) (rep : HeadReport) (h : HeadRecord) : Bool := becomesWrongArrow h rep.aspect

/-- WRONG_ARROW (R84). -/
def execWrongArrow (g lane : Nat) (d : Dir) (a b : Heard) (s : State) : Out :=
  .next (namedHeadWindow raisesWrongArrow g lane d a b s)

/-- Whether a node would still be INTEGRATING after the last node's window: the last node by its record then. -/
def integratingAfter (s : State) (last : Nat) (r1 : NodeRecord) : Bool :=
  (s.chain.nodes.set (last - 1) r1).any (fun r => decide (r.health = .integrating))

/-- Whether the last node's window ends a STARTUP on its count: the count goes from 249 to 250 with a node still
INTEGRATING (R168). -/
def startupCountRunsOut (s : State) (last : Nat) (r1 : NodeRecord) : Bool :=
  decide (s.psc.part = .startup) && decide (s.psc.startupFrames = 249) &&
    (match s.chain.frame with
      | some f => !f.cut
      | none => false) && integratingAfter s last r1

/-- The last node's window end at which the startup frame count reaches 250 (R168; logs 3, 8). -/
def startupTimeoutWindow (a b : Heard) (s : State) : State :=
  match s.image with
  | none => s
  | some bore =>
    match windowRecord (nodeCount bore) a b s with
    | some (_, r1) =>
      if startupCountRunsOut s (nodeCount bore) r1 then windowEnd (nodeCount bore) a b s else s
    | none => s

/-- STARTUP_TIMEOUT (R168). -/
def execStartupTimeout (a b : Heard) (s : State) : Out := .next (startupTimeoutWindow a b s)

/-- SERVICE_SLOT_START (R151). -/
def execServiceSlotStart (s : State) : Out := .next (beginService s)

/-- SERVICE_COMPLETE (R152). -/
def execServiceComplete (a b : Heard) (s : State) : Out := .next (endService a b s)

/-! ### Timers (R37, R94, R96) -/

/-- A pending window that has reached 0 leaves the section DISTURBED (R37). -/
def expireWindow (lane index : Nat) (s : State) : State :=
  match s.image with
  | none => s
  | some b =>
    match sectionAt? s b lane index with
    | some x => if windowExpired x then restoreSection b lane index SectionRecord.disturb s else s
    | none => s

/-- RESTORE_WINDOW_EXPIRY (R37; log 4). -/
def execRestoreWindowExpiry (lane index : Nat) (s : State) : Out := .next (expireWindow lane index s)

/-- Whether a lane's hold timer has run down to 0 and not yet stopped (R94). -/
def holdRunOut (r : LaneRecord) : Bool :=
  decide (r.phase = .clearing) && r.holdRunning && decide (r.holdRemaining = 0)

/-- A hold timer that has run down stops, and the lane is re-examined (R94, R95). -/
def expireHold (lane : Nat) (s : State) : State :=
  match lane? s lane with
  | some r =>
    if holdRunOut r then settled false (modifyLane lane (fun r => { r with holdRunning := false }) s) else s
  | none => s

/-- HOLD_TIMER_EXPIRY (R94; log 4). -/
def execHoldTimerExpiry (lane : Nat) (s : State) : Out := .next (expireHold lane s)

/-- Whether a lane's clearing time has reached the clearing timeout (R96). -/
def clearingOver (b : Bore) (r : LaneRecord) : Bool :=
  decide (r.phase = .clearing) &&
    match r.clearingTime with
    | some t => decide (b.clearingTimeout ≤ t)
    | none => false

/-- OVERDUE set, recorded in LANES (R96). -/
def markOverdue (lane : Nat) (s : State) : State :=
  match s.image, lane? s lane with
  | some b, some r =>
    if clearingOver b r then modifyLane lane (fun r => { r with overdue := true }) s else s
  | _, _ => s

/-- CLEARING_TIMEOUT (R96; log 4). -/
def execClearingTimeout (lane : Nat) (s : State) : Out := .next (markOverdue lane s)

/-! ### Loading (R162 to R166) -/

/-- Move the loader to an attempt phase with its wait at 0. -/
def setAttempt (p : AttemptPhase) (s : State) : State :=
  { s with loader := { s.loader with phase := p, waitMs := 0 } }

/-- An attempt begins: the addressing of its transaction goes out on the bus (R162). -/
def beginAttempt (s : State) : State :=
  { s with loader := { s.loader with phase := .reading, waitMs := 0, bus := addressing s.loader.transaction } }

/-- CFG_ATTEMPT_START: the bus has been idle for 1 ms and the attempt due begins (R162). -/
def execCfgAttemptStart (s : State) : Out :=
  .next (if loaderIn s .due then beginAttempt s else s)

/-- CFG_IDLE_TIMEOUT: the bus was not idle within 10 ms of the attempt falling due (R162). -/
def execCfgIdleTimeout (s : State) : Out :=
  .next (if loaderIn s .due && decide (10 ≤ s.loader.waitMs) then attemptFailed s else s)

/-- CFG_RETRY_DUE: 10 ms after a failed attempt the next falls due (R162). -/
def execCfgRetryDue (s : State) : Out :=
  .next (if loaderIn s .waiting && decide (10 ≤ s.loader.waitMs) then setAttempt .due s else s)

/-- HEADER_READ_COMPLETE: the 16 bytes read are judged (R163; log 29). -/
def execHeaderReadComplete (bytes : List Byte) (s : State) : Out :=
  .next (if loaderAt s .header .reading && decide (bytes.length = 16) then takeHeader bytes (readBus bytes s) else s)

/-- BODY_READ_COMPLETE: the remaining bytes of the total length are judged (R163, R164; log 29). -/
def execBodyReadComplete (bytes : List Byte) (s : State) : Out :=
  .next (if loaderAt s .body .reading && decide (bytes.length + 16 = s.loader.totalLength) then
    takeBody bytes (readBus bytes s) else s)

/-- MEMORY_NOT_ACKNOWLEDGED: the attempt fails (R162). -/
def execMemoryNotAcknowledged (s : State) : Out :=
  .next (if loaderIn s .reading then attemptFailed s else s)

end Sys2Proof.Machine
end

