-- ==== Sys2Proof/Machine/PlanRequests.lean ====
section
/-! DEFINITION. The requests of the Lane Plan Unit: CHANGE, CANCEL, HOLD, RESUME, ALLOW_REVERSAL (chapter 05). -/

namespace Sys2Proof.Machine

open Sys2Proof

/-! ### CHANGE: the checks (R88, R190) -/

/-- Check 3: pair count, payload length, no lane twice (R88, R190). -/
def changeFormatOk (fields : List Byte) : Bool :=
  within 1 4 (field fields 0) && decide (fields.length = 1 + 2 * field fields 0) &&
    decide (((pairsOf fields.tail).map (·.1)).Nodup)

/-- The pairs of a CHANGE with their targets read; none where check 4 fails (R88). -/
def changePairs (s : State) (fields : List Byte) : Option (List (Nat × Target)) :=
  (pairsOf fields.tail).mapM fun p =>
    match lane? s p.1, targetOf p.2 with
    | some _, some t => some (p.1, t)
    | _, _ => none

/-- Check 5: a fixed lane given the open target other than its own direction. -/
def notTidal (r : LaneRecord) (t : Target) : Bool :=
  match t, ownDir r.kind with
  | .opened d, some o => decide (d ≠ o)
  | _, _ => false

/-- Check 7: a target equal to the lane's present state. -/
def noChange (r : LaneRecord) (t : Target) : Bool :=
  match r.phase, t with
  | .opened, .opened d => decide (r.direction = some d)
  | .closed, .closed => true
  | _, _ => false

/-- Whether some pair's lane record satisfies a test. -/
def anyPair (s : State) (pairs : List (Nat × Target)) (p : LaneRecord → Target → Bool) : Bool :=
  pairs.any fun x =>
    match lane? s x.1 with
    | some r => p r x.2
    | none => false

/-- Whether a context is FREE. -/
def Ctx.isFree : Ctx → Bool
  | .free => true
  | _ => false

/-- Whether a context is DONE. -/
def Ctx.isDone : Ctx → Bool
  | .done _ _ => true
  | _ => false

/-- Whether context k satisfies a test. -/
def ctxIs (s : State) (p : Ctx → Bool) (k : Nat) : Bool :=
  match ctx? s k with
  | some c => p c
  | none => false

/-- The context R87 allocates: the lowest FREE one, or else the first DONE one from the replacement pointer upward. -/
def allocation (s : State) : Option Nat :=
  match (List.range 6).find? (ctxIs s Ctx.isFree) with
  | some k => some k
  | none => ((List.range 6).map (fun i => (s.plan.pointer + i) % 6)).find? (ctxIs s Ctx.isDone)

/-- Checks 4 to 10 of R88 in order: the first that fails, or the pairs and the context to allocate. -/
def changeChecks (s : State) (b : Bore) (fields : List Byte) : Except Status (List (Nat × Target) × Nat) :=
  match changePairs s fields with
  | none => .error .range
  | some pairs =>
    if anyPair s pairs notTidal then .error .notTidal
    else if pairs.any (fun p => (listedTarget s p.1).isSome) then .error .busy
    else if anyPair s pairs noChange then .error .noChange
    else if pairs.any (fun p => isOpenTarget p.2) && s.plan.inhibit then .error .inhibited
    else if !legalPattern b (committedPattern s pairs) then .error .pattern
    else
      match allocation s with
      | none => .error .noContext
      | some k => .ok (pairs, k)

/-! ### CHANGE: acceptance (R87, R89) -/

/-- A new entry of a lane list, with the lane's starting phase and direction (R86). -/
def newEntry (s : State) (p : Nat × Target) : CtxEntry :=
  { lane := p.1
    start := (lane? s p.1).bind (fun r => if r.phase = .opened then r.direction else none)
    target := p.2
    held := true
    snapshot := none }

/-- A named lane takes its first phase: OPEN enters CLOSING, CLOSED enters CLEARING with no direction (R89). -/
def startLane (k lane : Nat) (s : State) : State :=
  match lane? s lane with
  | none => s
  | some r =>
    match r.phase with
    | .opened => modifyLane lane (fun r => { r with phase := .closing, context := some k }) s
    | .closed => enterClearing k lane none s
    | _ => s

/-- The context allocated and the pointer moved on (R87, R89). -/
def allocate (k : Nat) (l : Link) (pairs : List (Nat × Target)) (s : State) : State :=
  let s1 := putCtx k (.active ⟨l, pairs.map (newEntry s), .unset, s.plan.runClock⟩) s
  { s1 with plan := { s1.plan with pointer := (k + 1) % 6 } }

/-- A CHANGE accepted into context k (R89). -/
def acceptChange (k : Nat) (l : Link) (pairs : List (Nat × Target)) (s : State) : State :=
  settled true ((pairs.map (·.1)).foldl (fun s lane => startLane k lane s) (allocate k l pairs s))

/-- CHANGE's service by the Lane Plan Unit (R88, R89). -/
def changeBody (l : Link) (fields : List Byte) (s : State) : State × Answer :=
  match s.image with
  | none => (s, Answer.plain .range)
  | some b =>
    if !changeFormatOk fields then (s, Answer.plain .format)
    else
      match changeChecks s b fields with
      | .error st => (s, Answer.plain st)
      | .ok (pairs, k) => (acceptChange k l pairs s, Answer.ok [byte k])

/-- CHANGE. -/
def execChange (l : Link) (fields : List Byte) (s : State) : Out :=
  .next (serve 0x20 atLeastOne changeBody l fields s)

/-! ### CANCEL (R103, R104) -/

/-- Whether a held lane of a context is past cancelling: in OPENING_BODY or OPENING_ENTRY (R103). -/
def pastCancel (s : State) (body : CtxBody) : Bool :=
  body.heldEntries.any fun e =>
    match lane? s e.lane with
    | some r => decide (r.phase = .openingBody) || decide (r.phase = .openingEntry)
    | none => false

/-- A lane returned by a CANCEL: OPEN in the direction it is still closing from, or CLOSED (R104). -/
def LaneRecord.returned (r : LaneRecord) : LaneRecord :=
  match r.phase with
  | .closing => r.settleAs r.direction
  | .clearing => r.settleAs r.direction
  | _ => r.settleAs none

/-- A CANCEL that passes its checks (R104). -/
def cancelCtx (k : Nat) (body : CtxBody) (s : State) : State :=
  settled true (putCtx k (.done body.ended .cancelled)
    (body.heldEntries.foldl (fun s e => modifyLane e.lane LaneRecord.returned s) s))

/-- CANCEL's service (R103, R104). -/
def cancelBody (_l : Link) (fields : List Byte) (s : State) : State × Answer :=
  let k := field fields 0
  if 5 < k then (s, Answer.plain .range)
  else
    match ctx? s k with
    | some (.active body) =>
      if pastCancel s body then (s, Answer.plain .tooLate) else (cancelCtx k body s, Answer.plain .ok)
    | _ => (s, Answer.plain .notFound)

/-- CANCEL. -/
def execCancel (l : Link) (fields : List Byte) (s : State) : Out :=
  .next (serve 0x21 (exactly 1) cancelBody l fields s)

/-! ### HOLD, RESUME, ALLOW_REVERSAL (R105, R106, R108) -/

/-- HOLD adds the link's origin (R105). -/
def holdBody (l : Link) (_fields : List Byte) (s : State) : State × Answer :=
  (changeHold (s.plan.hold.addLink l) s, Answer.plain .ok)

/-- HOLD. -/
def execHold (l : Link) (fields : List Byte) (s : State) : Out :=
  .next (serve 0x22 (exactly 0) holdBody l fields s)

/-- The hold without its link origins (R106). -/
def HoldSet.dropLinks (h : HoldSet) : HoldSet := { h with linkA := false, linkB := false }

/-- RESUME removes both link origins (R106). -/
def resumeBody (_l : Link) (_fields : List Byte) (s : State) : State × Answer :=
  (changeHold s.plan.hold.dropLinks s, Answer.plain .ok)

/-- RESUME. -/
def execResume (l : Link) (fields : List Byte) (s : State) : Out :=
  .next (serve 0x23 (exactly 0) resumeBody l fields s)

/-- ALLOW_REVERSAL is refused with STATE while any overlay is present, and clears the inhibit otherwise (R108). -/
def allowReversalBody (_l : Link) (_fields : List Byte) (s : State) : State × Answer :=
  if s.store.overlays.isEmpty then (changeInhibit false s, Answer.plain .ok) else (s, Answer.plain .state)

/-- ALLOW_REVERSAL. -/
def execAllowReversal (l : Link) (fields : List Byte) (s : State) : Out :=
  .next (serve 0x24 (exactly 0) allowReversalBody l fields s)

end Sys2Proof.Machine
end

