-- ==== Sys2Proof/Machine/Reads.lean ====
section
/-! DEFINITION. The eleven reads (R42, R85, R112, R113, R132, R133, R156, R157, R185, R187): what each reply carries, to
the layouts of chapter 10, and what three of them clear (R188). -/

namespace Sys2Proof.Machine

open Sys2Proof

/-- Answer of a read that changes nothing (R188). -/
def readOnly (a : Link → List Byte → State → Answer) (l : Link) (fields : List Byte) (s : State) : State × Answer :=
  (s, a l fields s)

/-- Two flags as bits 0 and 1 of a byte. -/
def twoBits (x y : Bool) : Nat := bit01 x + 2 * bit01 y

/-- Input numbers as bits of a two-byte field: bit i for input i (chapter 10). -/
def inputBits (is : List Nat) : Nat :=
  ((List.range 16).map (fun i => if i ∈ is then 2 ^ i else 0)).sum

/-! ### STATUS (R187) -/

/-- The five bore counts and both clear holds; 0 without an image (R187, R191). -/
def statusBore (s : State) : List Byte :=
  match s.image with
  | some b =>
    [byte (laneCount b), byte (gantryCount b), byte (stationCount b), byte (zoneCount b), byte (nodeCount b)] ++
      be32 (clearHold b) ++ be32 (computedClearHold b)
  | none => List.replicate 13 0#8

/-- Data of a STATUS reply, 32 bytes (chapter 10). -/
def statusData (s : State) (l : Link) : List Byte :=
  [byte (codePart s.psc.part), byte (codeStartup s.psc.startupKind)] ++ be16 s.psc.startupFrames ++
    [byte (codeLoad s.psc.loadFault.code), byte (codeTable s.psc.loadFault.table),
      byte (codeOr255 s.psc.loadFault.entry), byte (bit01 s.plan.inhibit),
      byte (twoBits s.plan.hold.linkA s.plan.hold.linkB)] ++
    be16 (inputBits s.plan.hold.inputs) ++
    [byte (bit01 (protectFail s)), byte (twoBits (locked s .a) (locked s .b)), byte (bit01 (s.unit l).overrun)] ++
    be32 s.plan.runClock ++ [byte (codeOr255 s.chain.lastEnded)] ++ statusBore s

/-- STATUS reports the link's OVERRUN as it stood, and clears it (R180, R187). -/
def statusBody (l : Link) (_fields : List Byte) (s : State) : State × Answer :=
  (s.setUnit l { s.unit l with overrun := false }, Answer.ok (statusData s l))

/-- STATUS. -/
def execStatus (l : Link) (fields : List Byte) (s : State) : Out :=
  .next (serve 0x10 (exactly 0) statusBody l fields s)

/-! ### SUMMARY (R185) -/

/-- Byte j of the flags of a vector: flag i stands at bit 7 minus the remainder of i by 8 (chapter 10). -/
def vectorByte (v : BitVec 154) (j : Nat) : Byte :=
  byte (((List.range 8).map (fun k => if v.getLsbD (8 * j + k) then 2 ^ (7 - k) else 0)).sum)

/-- The 154 flags in twenty bytes (chapter 10). -/
def summaryData (v : BitVec 154) : List Byte := (List.range 20).map (vectorByte v)

/-- SUMMARY copies the link's vector into the reply and clears every flag (R185). -/
def summaryBody (l : Link) (_fields : List Byte) (s : State) : State × Answer :=
  (s.setUnit l { s.unit l with vector := 0#154 }, Answer.ok (summaryData (s.unit l).vector))

/-- SUMMARY. -/
def execSummary (l : Link) (fields : List Byte) (s : State) : Out :=
  .next (serve 0x11 (exactly 0) summaryBody l fields s)

/-! ### READ_LANE (R112) -/

/-- The four flags of a lane record as bits 0 to 3. -/
def laneFlags (r : LaneRecord) : Nat :=
  bit01 r.overdue + 2 * bit01 r.unprotRising + 4 * bit01 r.unprotFalling + 8 * bit01 r.conflict

/-- A number that may be absent, as a present byte and two bytes, 0 when absent. -/
def optional16 : Option Nat → List Byte
  | some n => 1#8 :: be16 n
  | none => [0#8, 0#8, 0#8]

/-- Entry closure of a lane: 0 none, 1 protected, 2 unprotected, and the gantry of its protecting head in use or 0. -/
def closureBytes (s : State) (lane : Nat) : List Byte :=
  match closureOf s lane with
  | none => [0#8, 0#8]
  | some o =>
    match o.protecting with
    | some p => [1#8, byte p]
    | none => [2#8, 0#8]

/-- Data of a READ_LANE reply, 15 bytes (chapter 10). -/
def laneData (s : State) (r : LaneRecord) : List Byte :=
  [byte r.lane, byte (codeKind r.kind), byte (codeEscape r.escape), byte (codePhase r.phase),
    byte (codeDir r.direction), byte (codeOr255 r.context), byte (laneFlags r), byte (bit01 r.holdRunning)] ++
    be16 (r.holdRemaining / 100) ++ optional16 r.clearingTime ++ closureBytes s r.lane

/-- READ_LANE's answer (R112). -/
def laneAnswer (_l : Link) (fields : List Byte) (s : State) : Answer :=
  match lane? s (field fields 0) with
  | some r => Answer.ok (laneData s r)
  | none => Answer.plain .range

/-- READ_LANE. -/
def execReadLane (l : Link) (fields : List Byte) (s : State) : Out :=
  .next (serve 0x12 (exactly 1) (readOnly laneAnswer) l fields s)

/-! ### READ_SECTIONS (R42) -/

/-- State byte of a section: state, sweep mark, restore requester (chapter 10). -/
def sectionByte (st : SectionState) : Nat :=
  codeSection st +
    match st with
    | .prepared mark => 8 * bit01 mark
    | .restorePending l _ _ => 16 * codeLink (some l)
    | _ => 0

/-- Window remaining in seconds, 0 when not pending. -/
def windowOf : SectionState → Nat
  | .restorePending _ w _ => w
  | _ => 0

/-- A section entry of 7 bytes. -/
def sectionEntry (x : SectionRecord) : List Byte :=
  be16 x.capacity ++ be16 x.occupancy ++ [byte (sectionByte x.state)] ++ be16 (windowOf x.state)

/-- A crossing-point byte. -/
def crossingByte (c : Crossing) : Byte := byte (codeDecode c.phase + 8 * bit01 c.faulty + 16 * bit01 c.loopFault)

/-- Crossing points of a lane in station order. -/
def laneCrossings (s : State) (b : Bore) (lane : Nat) : List Crossing :=
  (List.range (stationCount b)).filterMap (fun k => crossing? s b k lane)

/-- Data of a READ_SECTIONS reply (chapter 10). -/
def sectionsData (s : State) (b : Bore) (lane : Nat) : List Byte :=
  [byte lane, byte (laneSections s b lane).length, byte (laneCrossings s b lane).length] ++
    (laneSections s b lane).flatMap sectionEntry ++ (laneCrossings s b lane).map crossingByte

/-- READ_SECTIONS's answer (R42). -/
def sectionsAnswer (_l : Link) (fields : List Byte) (s : State) : Answer :=
  match s.image with
  | some b =>
    if within 1 (laneCount b) (field fields 0) then Answer.ok (sectionsData s b (field fields 0))
    else Answer.plain .range
  | none => Answer.plain .range

/-- READ_SECTIONS. -/
def execReadSections (l : Link) (fields : List Byte) (s : State) : Out :=
  .next (serve 0x13 (exactly 1) (readOnly sectionsAnswer) l fields s)

/-! ### READ_GANTRY (R85) -/

/-- Proof byte: proof state in bits 2 to 0, fail cause in bits 6 to 4. -/
def proofByte (p : Proof) : Nat := codeProof p + 16 * codeCause p

/-- A head entry of 8 bytes. -/
def headEntry (h : HeadRecord) : List Byte :=
  [byte (headPosition h.lane h.face), byte (codeAspect h.intended.aspect), byte (codeAspect h.reported),
    byte h.strings, byte (proofByte h.proof), byte h.counter, byte (codeProbe h.probe), byte h.wrongRun]

/-- Heads of a gantry in head order (R5, R67). -/
def gantryHeads (s : State) (g : Nat) : List HeadRecord := s.heads.filter (fun h => decide (h.gantry = g))

/-- Data of a READ_GANTRY reply (chapter 10). -/
def gantryData (s : State) (g : Nat) (r : NodeRecord) : List Byte :=
  [byte g, byte (codeHealth r.health), byte (twoBits r.answeredA r.answeredB), byte (gantryHeads s g).length] ++
    (gantryHeads s g).flatMap headEntry

/-- READ_GANTRY's answer (R85). -/
def gantryAnswer (_l : Link) (fields : List Byte) (s : State) : Answer :=
  match s.image, node? s (field fields 0) with
  | some b, some r =>
    if within 1 (gantryCount b) (field fields 0) then Answer.ok (gantryData s (field fields 0) r)
    else Answer.plain .range
  | _, _ => Answer.plain .range

/-- READ_GANTRY. -/
def execReadGantry (l : Link) (fields : List Byte) (s : State) : Out :=
  .next (serve 0x14 (exactly 1) (readOnly gantryAnswer) l fields s)

/-! ### READ_CONTEXT (R113) -/

/-- Code of a starting phase: OPEN where a starting direction is present, CLOSED otherwise (R86). -/
def startPhase : Option Dir → Phase
  | some _ => .opened
  | none => .closed

/-- Snapshot of an entry: the section count, and where it is above 0 the occupancies and their sum. -/
def snapshotBytes : Option (List Nat) → List Byte
  | none => [0#8]
  | some [] => [0#8]
  | some (o :: os) => byte (o :: os).length :: (o :: os).flatMap be16 ++ be16 (o :: os).sum

/-- An entry of a lane list (chapter 10). -/
def ctxEntryBytes (e : CtxEntry) : List Byte :=
  [byte e.lane, byte (codePhase (startPhase e.start)), byte (codeDir e.start), byte (codeTarget e.target),
    byte (bit01 e.held)] ++ snapshotBytes e.snapshot

/-- The fields of an ACTIVE or DONE context after its state. -/
def ctxBodyBytes (body : CtxBody) (o : Option CtxOutcome) : List Byte :=
  [byte (codeLink (some body.origin)), byte (codeWait body.wait), byte (codeOutcome o)] ++ be32 body.started ++
    [byte body.entries.length] ++ body.entries.flatMap ctxEntryBytes

/-- Data of a READ_CONTEXT reply (chapter 10). -/
def contextData (k : Nat) (c : Ctx) : List Byte :=
  [byte k, byte (codeCtx c)] ++
    match c with
    | .free => []
    | .active body => ctxBodyBytes body none
    | .done body o => ctxBodyBytes body (some o)

/-- READ_CONTEXT's answer (R113). -/
def contextAnswer (_l : Link) (fields : List Byte) (s : State) : Answer :=
  match ctx? s (field fields 0) with
  | some c => Answer.ok (contextData (field fields 0) c)
  | none => Answer.plain .range

/-- READ_CONTEXT. -/
def execReadContext (l : Link) (fields : List Byte) (s : State) : Out :=
  .next (serve 0x15 (exactly 1) (readOnly contextAnswer) l fields s)

/-! ### READ_NODE (R156) -/

/-- Data of a READ_NODE reply, 11 bytes (chapter 10). -/
def nodeData (s : State) (r : NodeRecord) : List Byte :=
  [byte r.node, byte (codeNodeKind r.kind), byte (codeHealth r.health), byte (codeStatus r.lastStatus),
    byte r.missRun, byte r.dataRun, byte r.busyRun, byte r.disagreements, byte (twoBits r.answeredA r.answeredB),
    byte (bit01 r.busyExpired), byte (codeOr255 s.chain.lastEnded)]

/-- READ_NODE serves the record, then clears BUSY_EXPIRED, recorded in NODES (R156). -/
def nodeBody (_l : Link) (fields : List Byte) (s : State) : State × Answer :=
  match node? s (field fields 0) with
  | some r => (putNode (field fields 0) { r with busyExpired := false } s, Answer.ok (nodeData s r))
  | none => (s, Answer.plain .range)

/-- READ_NODE. -/
def execReadNode (l : Link) (fields : List Byte) (s : State) : Out :=
  .next (serve 0x16 (exactly 1) nodeBody l fields s)

/-! ### READ_CLOSURES (R132) -/

/-- Face on which a span acts and gantry of its protecting head in use, each 0 for none (R63). -/
def spanFace (s : State) (k : Nat) : List Byte :=
  match spanView s.obstructions k with
  | some (d, p) => [byte (codeDir (some d)), byte (p.getD 0)]
  | none => [0#8, 0#8]

/-- Entry of a present record, 9 bytes. -/
def spanEntry (s : State) (k : Nat) (sp : Span) : List Byte :=
  [byte k, byte sp.lane] ++ be16 sp.fromC ++ be16 sp.toC ++ [byte (codeLink (some sp.origin))] ++ spanFace s k

/-- Present records with their numbers, in record order. -/
def presentSpans (s : State) : List (Nat × Span) :=
  (List.range s.store.spans.length).filterMap fun k => ((s.store.spans[k]?).bind id).map (fun sp => (k, sp))

/-- READ_CLOSURES's answer (R132). -/
def closuresAnswer (_l : Link) (_fields : List Byte) (s : State) : Answer :=
  Answer.ok (byte (presentSpans s).length :: (presentSpans s).flatMap (fun p => spanEntry s p.1 p.2))

/-- READ_CLOSURES. -/
def execReadClosures (l : Link) (fields : List Byte) (s : State) : Out :=
  .next (serve 0x17 (exactly 0) (readOnly closuresAnswer) l fields s)

/-! ### READ_OVERLAYS (R133) -/

/-- Kind and number of an overlay target. -/
def targetBytes : OverlayTarget → List Byte
  | .zone z => [1#8, byte z]
  | .portal p => [2#8, byte p]

/-- Entry of an overlay, 7 bytes. -/
def overlayEntry (o : Overlay) : List Byte :=
  targetBytes o.target ++ [byte (twoBits o.linkA o.linkB)] ++ be16 (inputBits (o.inputs.map (·.input))) ++
    be16 (inputBits ((o.inputs.filter (·.active)).map (·.input)))

/-- READ_OVERLAYS's answer (R133). -/
def overlaysAnswer (_l : Link) (_fields : List Byte) (s : State) : Answer :=
  Answer.ok (byte s.store.overlays.length :: s.store.overlays.flatMap overlayEntry)

/-- READ_OVERLAYS. -/
def execReadOverlays (l : Link) (fields : List Byte) (s : State) : Out :=
  .next (serve 0x18 (exactly 0) (readOnly overlaysAnswer) l fields s)

/-! ### READ_INPUTS (R133) -/

/-- Contact code. -/
def codeContact : Contact → Nat
  | .opened => 0
  | .closed => 1

/-- Entry of input i, 8 bytes. -/
def inputEntry (s : State) (i : Nat) (r : InputRecord) : List Byte :=
  [byte (codeFunction r.cfg.function), byte (codeInputTarget r.cfg.function), byte (codePolarity r.cfg.polarity),
    byte (codeFilter r.cfg.filter), byte (codeContact (contactOf s i)), byte (bit01 r.active)] ++ be16 r.pending

/-- READ_INPUTS's answer (R133). -/
def inputsAnswer (_l : Link) (_fields : List Byte) (s : State) : Answer :=
  Answer.ok ([byte (twoBits (locked s .a) (locked s .b)), byte s.inputs.length] ++
    (s.inputs.mapIdx (inputEntry s)).flatten)

/-- READ_INPUTS. -/
def execReadInputs (l : Link) (fields : List Byte) (s : State) : Out :=
  .next (serve 0x19 (exactly 0) (readOnly inputsAnswer) l fields s)

/-! ### READ_SERVICE (R157) -/

/-- A link's service result record: 0 where it holds none. -/
def resultBytes : Option ServiceResult → List Byte
  | none => [0#8]
  | some r =>
    [1#8, byte r.node, byte (codeOperation r.operation), byte (codeSvcOutcome r.outcome), byte r.cycle,
      byte (codeStatus r.status), byte r.data.length] ++ r.data

/-- Entry of the service queue, 4 bytes. -/
def serviceEntryBytes (e : ServiceEntry) : List Byte :=
  [byte (codeLink (some e.origin)), byte e.node, byte (codeOperation e.operation), byte (if e.inFlight then 2 else 1)]

/-- READ_SERVICE's answer (R157). -/
def serviceAnswer (l : Link) (_fields : List Byte) (s : State) : Answer :=
  Answer.ok (resultBytes (result? s l) ++ byte s.chain.queue.length :: s.chain.queue.flatMap serviceEntryBytes)

/-- READ_SERVICE. -/
def execReadService (l : Link) (fields : List Byte) (s : State) : Out :=
  .next (serve 0x1A (exactly 0) (readOnly serviceAnswer) l fields s)

end Sys2Proof.Machine
end

