-- ==== Sys2Proof/Machine/RoadRequests.lean ====
section
/-! DEFINITION. The requests of the Occupancy Counting Unit, the Gantry Chain Controller, the Head Table and the Part
State Controller: RESTORE, CONFIRM_RESTORE, SERVICE, RESYNC, RESEND, ENTER_CONFIG, RELOAD, RESTART. -/

namespace Sys2Proof.Machine

open Sys2Proof

/-! ### RESTORE and CONFIRM_RESTORE (R34 to R39) -/

/-- Restore mode (chapter 10). -/
inductive RestoreMode
  | sweep
  | direct
  deriving DecidableEq, Repr

/-- A mode byte read (R190). -/
def modeOf (n : Nat) : Option RestoreMode :=
  match n with
  | 1 => some .sweep
  | 2 => some .direct
  | _ => none

/-- What a restore of a mode makes of the section (R35, R37). -/
def restoreBy (m : RestoreMode) (l : Link) (b : Bore) : SectionRecord → SectionRecord :=
  match m with
  | .sweep => SectionRecord.sweep
  | .direct => SectionRecord.direct l b.restoreWindow

/-- RESTORE's service: RANGE, STATE, FAULT_ACTIVE, or the restore by its mode byte (R34, R35, R37; log 17). -/
def restoreBody (l : Link) (fields : List Byte) (s : State) : State × Answer :=
  let lane := field fields 0
  let index := field fields 1
  match s.image, modeOf (field fields 2) with
  | some b, some m =>
    match sectionAt? s b lane index with
    | none => (s, Answer.plain .range)
    | some x =>
      if x.state ≠ .disturbed then (s, Answer.plain .state)
      else if crossingFaulty s b index lane || crossingFaulty s b (index + 1) lane then
        (s, Answer.plain .faultActive)
      else (restoreSection b lane index (restoreBy m l b) s, Answer.plain .ok)
  | _, _ => (s, Answer.plain .range)

/-- RESTORE with mode SWEEP. -/
def execRestoreSweep (l : Link) (fields : List Byte) (s : State) : Out :=
  .next (serve 0x29 (exactly 3) restoreBody l fields s)

/-- RESTORE with mode DIRECT. -/
def execRestoreDirect (l : Link) (fields : List Byte) (s : State) : Out :=
  .next (serve 0x29 (exactly 3) restoreBody l fields s)

/-- CONFIRM_RESTORE's service: RANGE, STATE, SAME_LINK, or the section CLEAR with occupancy 0 (R39). -/
def confirmBody (l : Link) (fields : List Byte) (s : State) : State × Answer :=
  let lane := field fields 0
  let index := field fields 1
  match s.image with
  | none => (s, Answer.plain .range)
  | some b =>
    match sectionAt? s b lane index with
    | none => (s, Answer.plain .range)
    | some x =>
      match x.state with
      | .restorePending requester _ _ =>
        if requester = l then (s, Answer.plain .sameLink)
        else (restoreSection b lane index SectionRecord.confirmed s, Answer.plain .ok)
      | _ => (s, Answer.plain .state)

/-- CONFIRM_RESTORE. -/
def execConfirmRestore (l : Link) (fields : List Byte) (s : State) : Out :=
  .next (serve 0x2A (exactly 2) confirmBody l fields s)

/-! ### SERVICE (R150) -/

/-- SERVICE's service: RANGE for node, operation or operation against kind, FULL at 8 entries, or queued (R150). -/
def serviceBody (l : Link) (fields : List Byte) (s : State) : State × Answer :=
  let n := field fields 0
  match node? s n, operationOf (field fields 1) with
  | some r, some op =>
    if !operationFits op r.kind then (s, Answer.plain .range)
    else if 8 ≤ s.chain.queue.length then (s, Answer.plain .full)
    else
      ({ s with chain := { s.chain with queue := s.chain.queue ++ [⟨l, n, op, false⟩] } }, Answer.plain .ok)
  | _, _ => (s, Answer.plain .range)

/-- SERVICE. -/
def execService (l : Link) (fields : List Byte) (s : State) : Out :=
  .next (serve 0x2B (exactly 2) serviceBody l fields s)

/-! ### RESYNC and RESEND (R81, R82) -/

/-- RESYNC discards the proof of every head whose node is not LOST (R81). -/
def resyncBody (_l : Link) (_fields : List Byte) (s : State) : State × Answer :=
  (discardProofs (fun _ => true) s, Answer.plain .ok)

/-- RESYNC. -/
def execResync (l : Link) (fields : List Byte) (s : State) : Out :=
  .next (serve 0x2C (exactly 0) resyncBody l fields s)

/-- RESEND discards the proof of one gantry's heads, and changes nothing where the gantry's node is LOST; RANGE for a
gantry that does not exist (R82). -/
def resendBody (_l : Link) (fields : List Byte) (s : State) : State × Answer :=
  let g := field fields 0
  match s.image with
  | some b =>
    if within 1 (gantryCount b) g then
      (if nodeLost s g then s else discardProofs (fun h => decide (h.gantry = g)) s, Answer.plain .ok)
    else (s, Answer.plain .range)
  | none => (s, Answer.plain .range)

/-- RESEND. -/
def execResend (l : Link) (fields : List Byte) (s : State) : Out :=
  .next (serve 0x2D (exactly 1) resendBody l fields s)

/-! ### ENTER_CONFIG, RELOAD, RESTART (R160, R171, R173) -/

/-- Whether a context is ACTIVE. -/
def Ctx.isActive : Ctx → Bool
  | .active _ => true
  | _ => false

/-- ENTER_CONFIG's service: STATE unless every lane is CLOSED and no context ACTIVE (R173). -/
def enterConfigBody (_l : Link) (_fields : List Byte) (s : State) : State × Answer :=
  if s.plan.lanes.all (fun r => decide (r.phase = .closed)) && !s.plan.contexts.any Ctx.isActive then
    (setPart .config s, Answer.plain .ok)
  else (s, Answer.plain .state)

/-- ENTER_CONFIG. -/
def execEnterConfig (l : Link) (fields : List Byte) (s : State) : Out :=
  .next (serve 0x30 (exactly 0) enterConfigBody l fields s)

/-- RELOAD is answered OK; LOADING is entered when the reply has been sent (R160). -/
def reloadBody (_l : Link) (_fields : List Byte) (s : State) : State × Answer := (s, ⟨.ok, [], .reload⟩)

/-- RELOAD. -/
def execReload (l : Link) (fields : List Byte) (s : State) : Out :=
  .next (serve 0x31 (exactly 0) reloadBody l fields s)

/-- RESTART is answered OK; the restart is taken when the reply has been sent (R171). -/
def restartBody (_l : Link) (_fields : List Byte) (s : State) : State × Answer := (s, ⟨.ok, [], .restart⟩)

/-- RESTART. -/
def execRestart (l : Link) (fields : List Byte) (s : State) : Out :=
  .next (serve 0x32 (exactly 0) restartBody l fields s)

end Sys2Proof.Machine
end

