-- ==== Sys2Proof/Machine/StoreRequests.lean ====
section
/-! DEFINITION. The requests of the Closure and Overlay Store: CLOSE_SPAN, REOPEN_SPAN, RAISE_OVERLAY, RELEASE_OVERLAY
(chapter 06). -/

namespace Sys2Proof.Machine

open Sys2Proof

/-! ### Span closures (R118, R119) -/

/-- Span record k, where it exists and is present. -/
def span? (s : State) (k : Nat) : Option Span := (s.store.spans[k]?).bind id

/-- The lowest-numbered free record (R118). -/
def freeSpan (s : State) : Option Nat :=
  (List.range s.store.spans.length).find? (fun k => (span? s k).isNone)

/-- CLOSE_SPAN's range check: lane 1 to n, chainage to at most 8000, from less than to (R118). -/
def spanInRange (s : State) (lane fromC toC : Nat) : Bool :=
  (lane? s lane).isSome && decide (toC ≤ 8000) && decide (fromC < toC)

/-- CLOSE_SPAN's service (R118). -/
def closeSpanBody (l : Link) (fields : List Byte) (s : State) : State × Answer :=
  let lane := field fields 0
  let fromC := field16 fields 1
  let toC := field16 fields 3
  if !spanInRange s lane fromC toC then (s, Answer.plain .range)
  else
    match freeSpan s with
    | none => (s, Answer.plain .full)
    | some k => (settled true (setSpan k (some ⟨lane, fromC, toC, l⟩) s), Answer.ok [byte k])

/-- CLOSE_SPAN. -/
def execCloseSpan (l : Link) (fields : List Byte) (s : State) : Out :=
  .next (serve 0x25 (exactly 5) closeSpanBody l fields s)

/-- REOPEN_SPAN's service (R119). -/
def reopenSpanBody (_l : Link) (fields : List Byte) (s : State) : State × Answer :=
  let k := field fields 0
  if 11 < k then (s, Answer.plain .range)
  else
    match span? s k with
    | none => (s, Answer.plain .notFound)
    | some _ => (settled true (setSpan k none s), Answer.plain .ok)

/-- REOPEN_SPAN. -/
def execReopenSpan (l : Link) (fields : List Byte) (s : State) : Out :=
  .next (serve 0x26 (exactly 1) reopenSpanBody l fields s)

/-! ### Overlays (R123, R125) -/

/-- Target named by a kind and number, where both are in range (R10, R123, R190). -/
def overlayTarget (s : State) (kind number : Nat) : Option OverlayTarget :=
  match kind, s.image with
  | 1, some b => if within 1 (zoneCount b) number then some (.zone number) else none
  | 2, some _ => if within 1 2 number then some (.portal number) else none
  | _, _ => none

/-- RAISE_OVERLAY's service (R123). -/
def raiseOverlayBody (l : Link) (fields : List Byte) (s : State) : State × Answer :=
  match overlayTarget s (field fields 0) (field fields 1) with
  | none => (s, Answer.plain .range)
  | some t => (raiseOverlay t (.link l) s, Answer.plain .ok)

/-- RAISE_OVERLAY. -/
def execRaiseOverlay (l : Link) (fields : List Byte) (s : State) : Out :=
  .next (serve 0x27 (exactly 2) raiseOverlayBody l fields s)

/-- RELEASE_OVERLAY's service: RANGE, NOT_FOUND, INPUT_ACTIVE, or the overlay and every origin removed (R125). -/
def releaseOverlayBody (_l : Link) (fields : List Byte) (s : State) : State × Answer :=
  match overlayTarget s (field fields 0) (field fields 1) with
  | none => (s, Answer.plain .range)
  | some t =>
    match overlay? s t with
    | none => (s, Answer.plain .notFound)
    | some v =>
      if v.inputs.any (·.active) then (s, Answer.plain .inputActive) else (removeOverlay t s, Answer.plain .ok)

/-- RELEASE_OVERLAY. -/
def execReleaseOverlay (l : Link) (fields : List Byte) (s : State) : Out :=
  .next (serve 0x28 (exactly 2) releaseOverlayBody l fields s)

end Sys2Proof.Machine
end

