-- ==== Sys2Proof/Machine/Dispatch.lean ====
section
/-! DEFINITION. One arm per command of the table, each one call of its meaning. -/

namespace Sys2Proof.Machine

open Sys2Proof

/-- The effect of a command on everything but the queue. -/
def exec (i : Instr) (s : State) : Host.Outcome State Fault Refusal :=
  match i with
  | .resetNAssert => Sys2Proof.Machine.execResetNAssert s
  | .resetNRelease => Sys2Proof.Machine.execResetNRelease s
  | .restartNFall => Sys2Proof.Machine.execRestartNFall s
  | .status l fs => Sys2Proof.Machine.execStatus l fs s
  | .summary l fs => Sys2Proof.Machine.execSummary l fs s
  | .readLane l fs => Sys2Proof.Machine.execReadLane l fs s
  | .readSections l fs => Sys2Proof.Machine.execReadSections l fs s
  | .readGantry l fs => Sys2Proof.Machine.execReadGantry l fs s
  | .readContext l fs => Sys2Proof.Machine.execReadContext l fs s
  | .readNode l fs => Sys2Proof.Machine.execReadNode l fs s
  | .readClosures l fs => Sys2Proof.Machine.execReadClosures l fs s
  | .readOverlays l fs => Sys2Proof.Machine.execReadOverlays l fs s
  | .readInputs l fs => Sys2Proof.Machine.execReadInputs l fs s
  | .readService l fs => Sys2Proof.Machine.execReadService l fs s
  | .change l fs => Sys2Proof.Machine.execChange l fs s
  | .cancel l fs => Sys2Proof.Machine.execCancel l fs s
  | .hold l fs => Sys2Proof.Machine.execHold l fs s
  | .resume l fs => Sys2Proof.Machine.execResume l fs s
  | .allowReversal l fs => Sys2Proof.Machine.execAllowReversal l fs s
  | .closeSpan l fs => Sys2Proof.Machine.execCloseSpan l fs s
  | .reopenSpan l fs => Sys2Proof.Machine.execReopenSpan l fs s
  | .raiseOverlay l fs => Sys2Proof.Machine.execRaiseOverlay l fs s
  | .releaseOverlay l fs => Sys2Proof.Machine.execReleaseOverlay l fs s
  | .restoreSweep l fs => Sys2Proof.Machine.execRestoreSweep l fs s
  | .restoreDirect l fs => Sys2Proof.Machine.execRestoreDirect l fs s
  | .confirmRestore l fs => Sys2Proof.Machine.execConfirmRestore l fs s
  | .service l fs => Sys2Proof.Machine.execService l fs s
  | .resync l fs => Sys2Proof.Machine.execResync l fs s
  | .resend l fs => Sys2Proof.Machine.execResend l fs s
  | .enterConfig l fs => Sys2Proof.Machine.execEnterConfig l fs s
  | .reload l fs => Sys2Proof.Machine.execReload l fs s
  | .restart l fs => Sys2Proof.Machine.execRestart l fs s
  | .unknownRequestCode l p => Sys2Proof.Machine.execUnknownRequestCode l p s
  | .overrun l p => Sys2Proof.Machine.execOverrun l p s
  | .linkFrameDiscard l es => Sys2Proof.Machine.execLinkFrameDiscard l es s
  | .linkGapTimeout l es e => Sys2Proof.Machine.execLinkGapTimeout l es e s
  | .replySent l => Sys2Proof.Machine.execReplySent l s
  | .einContactChange n v => Sys2Proof.Machine.execEinContactChange n v s
  | .filteredLevelChange n => Sys2Proof.Machine.execFilteredLevelChange n s
  | .chainFrameStart => Sys2Proof.Machine.execChainFrameStart s
  | .nodeReplyWindowEnd n a b => Sys2Proof.Machine.execNodeReplyWindowEnd n a b s
  | .busyExpiry n a b => Sys2Proof.Machine.execBusyExpiry n a b s
  | .nodeLost n a b => Sys2Proof.Machine.execNodeLost n a b s
  | .nodeSuspect n a b => Sys2Proof.Machine.execNodeSuspect n a b s
  | .nodeRecovered n a b => Sys2Proof.Machine.execNodeRecovered n a b s
  | .proofTimeout g lane d a b => Sys2Proof.Machine.execProofTimeout g lane d a b s
  | .recoveryRunComplete g lane d a b => Sys2Proof.Machine.execRecoveryRunComplete g lane d a b s
  | .wrongArrow g lane d a b => Sys2Proof.Machine.execWrongArrow g lane d a b s
  | .restoreWindowExpiry lane k => Sys2Proof.Machine.execRestoreWindowExpiry lane k s
  | .serviceSlotStart => Sys2Proof.Machine.execServiceSlotStart s
  | .serviceComplete a b => Sys2Proof.Machine.execServiceComplete a b s
  | .startupTimeout a b => Sys2Proof.Machine.execStartupTimeout a b s
  | .holdTimerExpiry lane => Sys2Proof.Machine.execHoldTimerExpiry lane s
  | .clearingTimeout lane => Sys2Proof.Machine.execClearingTimeout lane s
  | .cfgAttemptStart => Sys2Proof.Machine.execCfgAttemptStart s
  | .cfgIdleTimeout => Sys2Proof.Machine.execCfgIdleTimeout s
  | .cfgRetryDue => Sys2Proof.Machine.execCfgRetryDue s
  | .headerReadComplete bs => Sys2Proof.Machine.execHeaderReadComplete bs s
  | .bodyReadComplete bs => Sys2Proof.Machine.execBodyReadComplete bs s
  | .memoryNotAcknowledged => Sys2Proof.Machine.execMemoryNotAcknowledged s

end Sys2Proof.Machine
end

