-- ==== Sys2Proof/Machine/Tick.lean ====
section
/-! DEFINITION. What an empty queue stands for: the rest of a chain frame that is over, or one millisecond of the part's
clock, with the events whose time has come put in the queue (DESIGN CHOICE, log 1). -/

namespace Sys2Proof.Machine

open Sys2Proof

/-! ### The end of a chain frame (R136) -/

/-- What is left of a frame when its 20 ms are over: a window in which nothing was heard for each slot not yet ended,
and the service slot (R136, R143, R152). -/
def restOfFrame (b : Bore) (f : Frame) : List Instr :=
  ((List.range (nodeCount b + 1 - f.slot)).map (fun i => Instr.nodeReplyWindowEnd (f.slot + i) none none)) ++
    (if f.serviceBegun then [] else [Instr.serviceSlotStart]) ++ [Instr.serviceComplete none none]

/-- The slot in progress of a frame cut short, over within the millisecond: nothing was heard in it that the sender has
not sent (R138, R192; log 9). -/
def cutSlotDue (c : Chain) : List Instr :=
  match c.frame with
  | some f => if f.cut then [Instr.nodeReplyWindowEnd f.slot none none] else []
  | none => []

/-- The events due when the next chain frame is due: of a frame cut short, the slot in progress and nothing more (R136, R138;
log 9). -/
def frameDue (b : Bore) (s : State) : List Instr :=
  (match s.chain.frame with
    | some f => if f.cut then cutSlotDue s.chain else restOfFrame b f
    | none => []) ++ [Instr.chainFrameStart]

/-! ### One millisecond -/

/-- Age of a reply after 1 ms: behind another it stops at 10 ms, the moment by which it would have begun, and goes on from
there once it has the line (R179; log 16). -/
def olderReply (first : Bool) (age : Nat) : Nat := if first then age + 1 else min 10 (age + 1)

/-- The replies of a unit grow older. -/
def LinkUnit.age (u : LinkUnit) : LinkUnit :=
  { u with
    leaving := u.leaving.mapIdx (fun i r => { r with age := olderReply (decide (i = 0)) r.age })
    exchange := u.exchange.map (fun e => { e with age := olderReply u.leaving.isEmpty e.age }) }

/-- Whether the reply that has a unit's line has been sent at the latest (R179; log 16). -/
def LinkUnit.replyOver (u : LinkUnit) : Bool :=
  match u.leaving, u.exchange with
  | r :: _, _ => decide (replyBound r.reply ≤ r.age * 115200)
  | [], some e => decide (replyBound e.reply ≤ e.age * 115200)
  | [], none => false

/-- Whether the loader waits: for an idle bus, or for its retry (R162). -/
def Loader.waits (l : Loader) : Bool := decide (l.phase = .due) || decide (l.phase = .waiting)

/-- The loader's wait grows by 1 ms. -/
def Loader.tick (l : Loader) : Loader := if l.waits then { l with waitMs := l.waitMs + 1 } else l

/-- Events of the loader's waits (R162). -/
def Loader.due (l : Loader) : List Instr :=
  if l.waitMs < 10 then []
  else
    match l.phase with
    | .due => [.cfgIdleTimeout]
    | .waiting => [.cfgRetryDue]
    | _ => []

/-- Pending time of an input after 1 ms: it runs while the contact stands departed (R127). -/
def tickInput (s : State) (i : Nat) (r : InputRecord) : InputRecord :=
  if inputDeparted s i r then { r with pending := r.pending + 1 } else { r with pending := 0 }

/-- Inputs whose pending time has reached their filter time (R127). -/
def inputsDue (s : State) : List Instr :=
  (List.range s.inputs.length).filterMap fun i =>
    match s.inputs[i]? with
    | some r =>
      if inputDeparted s i r && decide (filterMs r.cfg.filter ≤ r.pending) then some (.filteredLevelChange i) else none
    | none => none

/-- Hold timer of a lane after 1 ms: it falls by 100 ms at the end of every 100 ms while it runs (R94). -/
def LaneRecord.tickHold (r : LaneRecord) : LaneRecord :=
  if r.phase = .clearing ∧ r.holdRunning = true then
    if 100 ≤ r.holdMs + 1 then { r with holdMs := 0, holdRemaining := r.holdRemaining - 100 }
    else { r with holdMs := r.holdMs + 1 }
  else r

/-- Clearing time of a lane after 1 ms: whole seconds, saturating at 65 535 (R17, R96). -/
def LaneRecord.tickClearing (r : LaneRecord) : LaneRecord :=
  match r.clearingTime with
  | none => r
  | some t =>
    if 1000 ≤ r.clearMs + 1 then { r with clearMs := 0, clearingTime := some (min 65535 (t + 1)) }
    else { r with clearMs := r.clearMs + 1 }

/-- A lane record after 1 ms. -/
def LaneRecord.tick (r : LaneRecord) : LaneRecord := r.tickHold.tickClearing

/-- Events of a lane's timers after a millisecond: `r` before it, `r1` after (R94, R96). -/
def laneDue (b : Bore) (r r1 : LaneRecord) : List Instr :=
  (if holdRunOut r1 then [Instr.holdTimerExpiry r1.lane] else []) ++
    (if clearingOver b r1 && !clearingOver b r then [Instr.clearingTimeout r1.lane] else [])

/-- Events of all lanes' timers. -/
def lanesDue (b : Bore) (lanes : List LaneRecord) : List Instr := lanes.flatMap (fun r => laneDue b r r.tick)

/-- A section after 1 ms: a pending window falls by 1 s at the end of each whole second (R37). -/
def SectionRecord.tick (x : SectionRecord) : SectionRecord :=
  match x.state with
  | .restorePending l w m =>
    if 1000 ≤ m + 1 then { x with state := .restorePending l (w - 1) 0 }
    else { x with state := .restorePending l w (m + 1) }
  | _ => x

/-- Events of pending windows that have reached 0 (R37). -/
def sectionsDue (xs : List SectionRecord) : List Instr :=
  (xs.filter windowExpired).map (fun x => Instr.restoreWindowExpiry x.lane x.index)

/-- The run clock after 1 ms: whole seconds in RUN and CONFIG, saturating (R86). -/
def tickRunClock (s : State) (p : LanePlan) : LanePlan :=
  if working s then
    if 1000 ≤ p.runMs + 1 then { p with runMs := 0, runClock := min 4294967295 (p.runClock + 1) }
    else { p with runMs := p.runMs + 1 }
  else p

/-- Every count of time after 1 ms, nothing yet acted on. -/
def advanceTime (s : State) : State :=
  { s with
    loader := s.loader.tick
    linkA := s.linkA.age
    linkB := s.linkB.age
    inputs := s.inputs.mapIdx (tickInput s)
    plan := tickRunClock s { s.plan with lanes := s.plan.lanes.map LaneRecord.tick }
    count := { s.count with sections := s.count.sections.map SectionRecord.tick }
    chain := { s.chain with untilNext := s.chain.untilNext - 1 } }

/-- The events whose time has come after a millisecond, `s` before it and `s1` after. -/
def eventsDue (s s1 : State) : List Instr :=
  s1.loader.due ++ cutSlotDue s1.chain ++ (if s1.linkA.replyOver then [Instr.replySent .a] else []) ++
    (if s1.linkB.replyOver then [Instr.replySent .b] else []) ++ inputsDue s1 ++
    (match s.image with
      | some b => lanesDue b s.plan.lanes
      | none => []) ++ sectionsDue s1.count.sections

/-- What an empty queue stands for (log 1). -/
def tick (s : State) : State :=
  if s.pins.resetLow then { s with pending := cutSlotDue s.chain }
  else
    match s.image with
    | some b =>
      if polls s && decide (s.chain.untilNext = 0) then { s with pending := frameDue b s }
      else { advanceTime s with pending := eventsDue s (advanceTime s) }
    | none => { advanceTime s with pending := eventsDue s (advanceTime s) }

end Sys2Proof.Machine
end

