-- ==== Sys2Proof/WellFormed.lean ====
section
/-! DEFINITION. Which commands the senders of 00_scope.md can give: payload lengths, codes and numbers in the ranges the
lines, pins and records have. `exec` has a meaning for the others too. -/

namespace Sys2Proof

open Sys2Proof.Machine

/-- A request frame: its link, its code and the payload bytes after it. -/
structure Request where
  link : Link
  code : Nat
  fields : List Byte
  deriving DecidableEq, Repr

/-- The request a command is, where it is one, with its code of chapter 10. -/
def Instr.request? : Instr → Option Request
  | .status l fs => some ⟨l, 0x10, fs⟩
  | .summary l fs => some ⟨l, 0x11, fs⟩
  | .readLane l fs => some ⟨l, 0x12, fs⟩
  | .readSections l fs => some ⟨l, 0x13, fs⟩
  | .readGantry l fs => some ⟨l, 0x14, fs⟩
  | .readContext l fs => some ⟨l, 0x15, fs⟩
  | .readNode l fs => some ⟨l, 0x16, fs⟩
  | .readClosures l fs => some ⟨l, 0x17, fs⟩
  | .readOverlays l fs => some ⟨l, 0x18, fs⟩
  | .readInputs l fs => some ⟨l, 0x19, fs⟩
  | .readService l fs => some ⟨l, 0x1A, fs⟩
  | .change l fs => some ⟨l, 0x20, fs⟩
  | .cancel l fs => some ⟨l, 0x21, fs⟩
  | .hold l fs => some ⟨l, 0x22, fs⟩
  | .resume l fs => some ⟨l, 0x23, fs⟩
  | .allowReversal l fs => some ⟨l, 0x24, fs⟩
  | .closeSpan l fs => some ⟨l, 0x25, fs⟩
  | .reopenSpan l fs => some ⟨l, 0x26, fs⟩
  | .raiseOverlay l fs => some ⟨l, 0x27, fs⟩
  | .releaseOverlay l fs => some ⟨l, 0x28, fs⟩
  | .restoreSweep l fs => some ⟨l, 0x29, fs⟩
  | .restoreDirect l fs => some ⟨l, 0x29, fs⟩
  | .confirmRestore l fs => some ⟨l, 0x2A, fs⟩
  | .service l fs => some ⟨l, 0x2B, fs⟩
  | .resync l fs => some ⟨l, 0x2C, fs⟩
  | .resend l fs => some ⟨l, 0x2D, fs⟩
  | .enterConfig l fs => some ⟨l, 0x30, fs⟩
  | .reload l fs => some ⟨l, 0x31, fs⟩
  | .restart l fs => some ⟨l, 0x32, fs⟩
  | .resetNAssert => none
  | .resetNRelease => none
  | .restartNFall => none
  | .unknownRequestCode _ _ => none
  | .overrun _ _ => none
  | .linkFrameDiscard _ _ => none
  | .linkGapTimeout _ _ _ => none
  | .replySent _ => none
  | .einContactChange _ _ => none
  | .filteredLevelChange _ => none
  | .chainFrameStart => none
  | .nodeReplyWindowEnd _ _ _ => none
  | .busyExpiry _ _ _ => none
  | .nodeLost _ _ _ => none
  | .nodeSuspect _ _ _ => none
  | .nodeRecovered _ _ _ => none
  | .proofTimeout _ _ _ _ _ => none
  | .recoveryRunComplete _ _ _ _ _ => none
  | .wrongArrow _ _ _ _ _ => none
  | .restoreWindowExpiry _ _ => none
  | .serviceSlotStart => none
  | .serviceComplete _ _ => none
  | .startupTimeout _ _ => none
  | .holdTimerExpiry _ => none
  | .clearingTimeout _ => none
  | .cfgAttemptStart => none
  | .cfgIdleTimeout => none
  | .cfgRetryDue => none
  | .headerReadComplete _ => none
  | .bodyReadComplete _ => none
  | .memoryNotAcknowledged => none

/-- A payload of 1 to 200 bytes, code included (R177). -/
def requestWf (r : Request) : Bool := decide (r.fields.length + 1 ≤ 200)

/-- Mode byte of a RESTORE payload, where it has one (chapter 10). -/
def modeByte (fields : List Byte) : Option Nat := (fields[2]?).map (·.toNat)

/-- Well-formedness of what is special to a constructor. -/
def Instr.wfOperands : Instr → Bool
  | .restoreSweep _ fs => decide (modeByte fs ≠ some 2)
  | .restoreDirect _ fs => decide (modeByte fs ≠ some 1)
  | .unknownRequestCode _ p =>
    within 1 200 p.length &&
      match p with
      | c :: _ => !(within 0x10 0x1A c.toNat || within 0x20 0x2D c.toNat || within 0x30 0x32 c.toNat)
      | [] => false
  | .overrun _ p => within 1 200 p.length
  | .linkFrameDiscard _ es => !es.isEmpty
  | .einContactChange i _ => decide (i < 16)
  | .filteredLevelChange i => decide (i < 16)
  | .nodeReplyWindowEnd n _ _ => within 1 68 n
  | .busyExpiry n _ _ => within 1 68 n
  | .nodeLost n _ _ => within 1 68 n
  | .nodeSuspect n _ _ => within 1 68 n
  | .nodeRecovered n _ _ => within 1 68 n
  | .proofTimeout g lane _ _ _ => within 1 48 g && within 1 6 lane
  | .recoveryRunComplete g lane _ _ _ => within 1 48 g && within 1 6 lane
  | .wrongArrow g lane _ _ _ => within 1 48 g && within 1 6 lane
  | .restoreWindowExpiry lane k => within 1 6 lane && decide (k ≤ 18)
  | .holdTimerExpiry lane => within 1 6 lane
  | .clearingTimeout lane => within 1 6 lane
  | .headerReadComplete bs => decide (bs.length = 16)
  | .bodyReadComplete bs => within 1 8176 bs.length
  | _ => true

/-- A well-formed command. -/
def Instr.wf (i : Instr) : Bool :=
  i.wfOperands &&
    match i.request? with
    | some r => requestWf r
    | none => true

end Sys2Proof
end

