-- ==== Sys2Proof/Safety.lean ====
section
/-! DEFINITION. The terms in which claims about the TF48 are stated: requests that pass their Link Unit, the replies due
for them, what the engine and the Lane Plan Unit leave as it is, and the invariants. -/

namespace Sys2Proof.Machine

open Sys2Proof

/-! ### Requests -/

/-- The gating table of R181 for a request code and a part state, LOADING apart. -/
def Gated (code : Nat) (p : PartState) : Prop :=
  (0x10 ≤ code ∧ code ≤ 0x1A) ∨ (0x20 ≤ code ∧ code ≤ 0x30 ∧ p = .run) ∨
    (code = 0x31 ∧ (p = .run ∨ p = .config ∨ p = .fault)) ∨ code = 0x32

/-- Payload bytes after the code that the layout of a request code fixes, CHANGE apart (chapter 10). -/
def fixedFields (code : Nat) : Nat :=
  match code with
  | 0x12 => 1
  | 0x13 => 1
  | 0x14 => 1
  | 0x15 => 1
  | 0x16 => 1
  | 0x21 => 1
  | 0x25 => 5
  | 0x26 => 1
  | 0x27 => 2
  | 0x28 => 2
  | 0x29 => 3
  | 0x2A => 2
  | 0x2B => 2
  | 0x2D => 1
  | _ => 0

/-- A payload the unit's length check refuses: not the length its layout fixes, or a CHANGE without its count
(R181 check 5). -/
def BadLength (code : Nat) (fields : List Byte) : Prop :=
  if code = 0x20 then fields = [] else fields.length ≠ fixedFields code

/-- The unit of a link stands ready to serve a frame: RESET_N high, not LOADING, not serving (R179, R181). -/
def Ready (s : State) (l : Link) : Prop :=
  s.pins.resetLow = false ∧ s.psc.part ≠ .loading ∧ (s.unit l).serving = false

/-- A request code passes the checks of its link's unit but for its length: ready, gated, not locked (R181). -/
def Admitted (s : State) (l : Link) (code : Nat) : Prop :=
  Ready s l ∧ Gated code s.psc.part ∧ (code < 0x20 ∨ locked s l = false)

/-- A unit that serves a request with a given reply due: its receiver idle again, the rest of it as in `u`. -/
def LinkUnit.replying (u : LinkUnit) (code : Nat) (fields : List Byte) (status : Status) (data : List Byte)
    (action : ReplyAction) : LinkUnit :=
  { u with
    rx := Receiver.idle
    serving := true
    exchange := some ⟨byte code :: fields, byte code :: byte (codeReplyStatus status) :: data, action, 0⟩ }

/-- The state `s` with the unit of a link serving a request and nothing else changed. -/
def State.answered (s : State) (l : Link) (code : Nat) (fields : List Byte) (status : Status) (data : List Byte)
    (action : ReplyAction) : State :=
  s.setUnit l ((s.unit l).replying code fields status data action)

/-- In `t` the unit of a link serves a request with a given reply due. -/
def Replied (t : State) (l : Link) (code : Nat) (fields : List Byte) (status : Status) (data : List Byte)
    (action : ReplyAction) : Prop :=
  (t.unit l).serving = true ∧
    (t.unit l).exchange = some ⟨byte code :: fields, byte code :: byte (codeReplyStatus status) :: data, action, 0⟩

/-! ### What changes nothing but its own -/

/-- Every flag set in one vector is set in the other. -/
def Keeps (v w : BitVec 154) : Prop := ∀ i, v.getLsbD i = true → w.getLsbD i = true

/-- What a Link Unit holds apart from its vector. -/
def LinkUnit.line (u : LinkUnit) : Receiver × Bool × Option Exchange × List Leaving × Bool :=
  (u.rx, u.serving, u.exchange, u.leaving, u.overrun)

/-- What of a head record the engine never writes (R45, R70). -/
def HeadRecord.road (h : HeadRecord) : Nat × Nat × Dir × Aspect × Nat × Probe :=
  (h.gantry, h.lane, h.face, h.reported, h.strings, h.probe)

/-- What the engine and the Lane Plan Unit, acting on each other, leave as it is: everything but the lane records and
contexts themselves, the obstructions, the intended aspects with the proof they begin again, and flags set in the
vectors. -/
structure RoadSame (s t : State) : Prop where
  pending : t.pending = s.pending
  pins : t.pins = s.pins
  psc : t.psc = s.psc
  loader : t.loader = s.loader
  image : t.image = s.image
  count : t.count = s.count
  store : t.store = s.store
  inputs : t.inputs = s.inputs
  chain : t.chain = s.chain
  pointer : t.plan.pointer = s.plan.pointer
  inhibit : t.plan.inhibit = s.plan.inhibit
  hold : t.plan.hold = s.plan.hold
  runClock : t.plan.runClock = s.plan.runClock
  runMs : t.plan.runMs = s.plan.runMs
  laneCount : t.plan.lanes.length = s.plan.lanes.length
  contextCount : t.plan.contexts.length = s.plan.contexts.length
  heads : t.heads.map HeadRecord.road = s.heads.map HeadRecord.road
  lineA : t.linkA.line = s.linkA.line
  lineB : t.linkB.line = s.linkB.line
  vectorA : Keeps s.linkA.vector t.linkA.vector
  vectorB : Keeps s.linkB.vector t.linkB.vector

/-- A flag is set in both vectors (R184). -/
def Recorded (t : State) (i : Nat) : Prop :=
  t.linkA.vector.getLsbD i = true ∧ t.linkB.vector.getLsbD i = true

/-- Lanes held in context k, in list order. -/
def heldLanes (s : State) (k : Nat) : List Nat :=
  match ctx? s k with
  | some (.active body) => body.heldEntries.map (·.lane)
  | _ => []

/-- A lane is held in an ACTIVE context (R86). -/
def Held (s : State) (lane : Nat) : Prop := ∃ k < s.plan.contexts.length, lane ∈ heldLanes s k

/-- A lane held in no ACTIVE context keeps its phase, direction and context field. -/
def IdleStand (s t : State) : Prop :=
  ∀ lane, ¬ Held s lane → (lane? t lane).map laneHanded = (lane? s lane).map laneHanded

/-- What the end of gantry g's reply window leaves as it is: all that the engine and the Lane Plan Unit leave, the
other gantries' reports, the other nodes, the queue and the results. -/
def GantryWindow (g : Nat) (s t : State) : Prop :=
  RoadSame { s with chain := t.chain, heads := t.heads } t ∧
    (t.heads.filter (fun h => decide (h.gantry ≠ g))).map HeadRecord.road =
      (s.heads.filter (fun h => decide (h.gantry ≠ g))).map HeadRecord.road ∧
    t.chain = { s.chain with frame := t.chain.frame, nodes := t.chain.nodes } ∧
    ∀ n, n ≠ g → node? t n = node? s n

/-- What a restart or an entry to LOADING makes of the frame under way: cut short in its node slot, which is left in
progress; none where the node slots were over (R138, R160). -/
def SlotCut (s t : State) : Prop :=
  (s.chain.frame = none → t.chain.frame = none) ∧
    ∀ f, s.chain.frame = some f →
      (f.cut = true ∨ f.slot ≤ s.chain.nodes.length → t.chain.frame = some { f with cut := true }) ∧
        (f.cut = false → s.chain.nodes.length < f.slot → t.chain.frame = none)

/-- At an entry to LOADING a unit's replies are left to be sent in full: those already left, and then the one due, from
`u` before to `v` after (R179). -/
def RepliesLeft (u v : LinkUnit) : Prop :=
  (u.exchange = none → v.leaving = u.leaving) ∧
    ∀ e, u.exchange = some e → v.leaving = u.leaving ++ [⟨e.reply, e.age⟩]

/-! ### What the passing of time leaves as it is -/

/-- A Link Unit with the ages of its replies put to 0. -/
def LinkUnit.untimed (u : LinkUnit) : LinkUnit :=
  { u with
    exchange := u.exchange.map (fun e => { e with age := 0 })
    leaving := u.leaving.map (fun r => { r with age := 0 }) }

/-- A lane record with its counts of time put to 0; a clearing time stays present. -/
def LaneRecord.untimed (r : LaneRecord) : LaneRecord :=
  { r with holdRemaining := 0, holdMs := 0, clearMs := 0, clearingTime := r.clearingTime.map (fun _ => 0) }

/-- A section record with the window of RESTORE_PENDING put to 0. -/
def SectionRecord.untimed (x : SectionRecord) : SectionRecord :=
  { x with state := match x.state with
      | .restorePending l _ _ => .restorePending l 0 0
      | other => other }

/-- A state without its queue and with every count of time put to 0: all that the passing of time leaves as it is. -/
def State.untimed (s : State) : State :=
  { s with
    pending := []
    loader := { s.loader with waitMs := 0 }
    linkA := s.linkA.untimed
    linkB := s.linkB.untimed
    plan := { s.plan with lanes := s.plan.lanes.map LaneRecord.untimed, runClock := 0, runMs := 0 }
    count := { s.count with sections := s.count.sections.map SectionRecord.untimed }
    inputs := s.inputs.map (fun r => { r with pending := 0 })
    chain := { s.chain with untilNext := 0 } }

/-! ### Patterns, lane by lane -/

/-- A pattern is legal: every RISING lane on the rising side of every FALLING one, and none of them neighbours where the
buffer is required (R12). -/
def Legal (b : Bore) (p : Pattern) : Prop :=
  ∀ i j, p[i]? = some (some .rising) → p[j]? = some (some .falling) →
    (if b.risingSide = .lo then i < j else j < i) ∧ (b.bufferRequired = true → i + 1 ≠ j ∧ j + 1 ≠ i)

/-- A pattern gives each lane a direction, or none, that `dir` admits for its record. -/
def PatternOf (s : State) (dir : LaneRecord → Option Dir → Prop) (p : Pattern) : Prop :=
  p.length = s.plan.lanes.length ∧
    ∀ (i : Nat) (r : LaneRecord), s.plan.lanes[i]? = some r → ∃ d, p[i]? = some d ∧ dir r d

/-- The direction a lane holds in the present pattern: none where it is CLOSED or CLEARED (R14). -/
def standingDir (r : LaneRecord) : Option Dir :=
  if r.phase = .closed ∨ r.phase = .cleared then none else r.direction

/-- A lane's place in the committed pattern: its target in the pairs of the CHANGE, or else in the ACTIVE context it is
held in, or else its direction where it is OPEN (R13). -/
def CommittedDir (s : State) (pairs : List (Nat × Target)) (r : LaneRecord) (d : Option Dir) : Prop :=
  (∀ target, (r.lane, target) ∈ pairs → d = targetDir target) ∧
    ((∀ target, (r.lane, target) ∉ pairs) →
      (∀ (k : Nat) (body : CtxBody), ctx? s k = some (.active body) →
        ∀ e ∈ body.entries, e.held = true → e.lane = r.lane → d = targetDir e.target) ∧
      (¬ Held s r.lane → d = if r.phase = .opened then r.direction else none))

/-- A lane's place in the present pattern with a context's open targets added (R98 condition 4). -/
def OpenedDir (body : CtxBody) (r : LaneRecord) (d : Option Dir) : Prop :=
  (∀ e ∈ body.entries, e.held = true → e.lane = r.lane → ∀ x, e.target = .opened x → d = some x) ∧
    ((∀ e ∈ body.entries, e.held = true → e.lane = r.lane → e.target = .closed) → d = standingDir r)

/-! ### The conditions of the advances -/

/-- A head, where it stands, is PROVEN or FAILED. -/
def HeadSettled (s : State) (g lane : Nat) (d : Dir) : Prop :=
  ∀ h, head? s g lane d = some h → h.proof = .proven ∨ ∃ cause, h.proof = .failed cause

/-- CLOSING may become CLEARING: the protecting head in use PROVEN and reported CROSS, the lead heads settled (R91). -/
def ClosingMet (s : State) (lane : Nat) : Prop :=
  ∃ o p h, closureOf s lane = some o ∧ o.protecting = some p ∧ head? s p lane o.face = some h ∧
    h.proof = .proven ∧ h.reported = .cross ∧ ∀ g ∈ o.leads, HeadSettled s g lane o.face

/-- CLEARING may become CLEARED: every section CLEAR and the hold timer run out (R95). -/
def ClearingMet (s : State) (b : Bore) (r : LaneRecord) : Prop :=
  (∀ x ∈ laneSections s b r.lane, x.state = .clear) ∧ r.holdRunning = false ∧ r.holdRemaining = 0

/-- OPENING_BODY may become OPENING_ENTRY: the heads at downstream positions settled (R100). -/
def BodyMet (s : State) (b : Bore) (lane : Nat) (d : Dir) : Prop :=
  ∀ g ∈ downstreamHeads b lane d, HeadSettled s g lane d

/-- OPENING_ENTRY may become OPEN: the entry head and the approach heads settled (R101). -/
def EntryMet (s : State) (b : Bore) (lane : Nat) (d : Dir) : Prop :=
  ∀ g ∈ entryAndApproachHeads b lane d, HeadSettled s g lane d

/-- A held lane with an advance of its own that its conditions allow (R91, R95, R100, R101). -/
def AdvanceMet (s : State) (b : Bore) (r : LaneRecord) : Prop :=
  (r.phase = .closing ∧ ClosingMet s r.lane) ∨ (r.phase = .clearing ∧ ClearingMet s b r) ∨
    (∃ d, r.direction = some d ∧ r.phase = .openingBody ∧ BodyMet s b r.lane d) ∨
    ∃ d, r.direction = some d ∧ r.phase = .openingEntry ∧ EntryMet s b r.lane d

/-- Every head of a lane facing away from d' reports CROSS or DARK from a GOOD node (R98 condition 3). -/
def OpposingMet (s : State) (lane : Nat) (d : Dir) : Prop :=
  ∀ h ∈ s.heads, h.lane = lane → h.face = otherDir d →
    (h.reported = .cross ∨ h.reported = .dark) ∧ ∃ n, node? s h.gantry = some n ∧ n.health = .good

/-- Own reason of a lane that does not advance (R95, R102). -/
def OwnReason (s : State) (b : Bore) (lane : Nat) (w : WaitReason) : Prop :=
  ∃ r, lane? s lane = some r ∧
    let secs := laneSections s b lane
    let upset := ∃ x ∈ secs, x.state ≠ .clear ∧ x.state ≠ .occupied
    (r.phase = .closing → w = .protection ∨ w = .settling) ∧
    (r.phase = .closing → (w = .protection ↔ ∀ o, closureOf s lane = some o → o.protecting = none)) ∧
    (r.phase = .clearing → (w = .disturbed ∨ w = .occupied ∨ w = .unset) ∧ (w = .disturbed ↔ upset) ∧
      (w = .occupied ↔ ¬ upset ∧ ∃ x ∈ secs, x.state = .occupied)) ∧
    (r.phase = .openingBody ∨ r.phase = .openingEntry → w = .settling) ∧ (r.phase = .cleared → w = .unset)

/-- The wait reason of a context that takes no advance (R98, R102): HOLD; or the first of the opening step's conditions
that fails; or the first of its lanes' own reasons other than NONE. -/
def WaitsBy (s : State) (b : Bore) (body : CtxBody) : Prop :=
  let held := body.entries.filter (·.held)
  let cleared := ∀ e ∈ held, ∃ r, lane? s e.lane = some r ∧ r.phase = .cleared
  let inhibited := s.plan.inhibit = true ∧ ∃ e ∈ held, e.target ≠ .closed
  let facing := ∀ e ∈ held, ∀ d, e.target = .opened d → OpposingMet s e.lane d
  (s.plan.hold.active = true → body.wait = .hold) ∧
  (s.plan.hold.active = false → cleared →
    (inhibited → body.wait = .inhibit) ∧ (¬ inhibited → ¬ facing → body.wait = .opposing) ∧
      (¬ inhibited → facing → body.wait = .pattern ∧ ∃ p, PatternOf s (OpenedDir body) p ∧ ¬ Legal b p)) ∧
  (s.plan.hold.active = false → ¬ cleared → ∀ own : CtxEntry → WaitReason,
    (∀ e ∈ held, OwnReason s b e.lane (own e)) →
      body.wait = ((held.map own).find? (fun w => decide (w ≠ .unset))).getD .unset)

/-! ### Invariants -/

/-- Some head of a lane and face is intended ARROW or DIVERT. -/
def Invited (s : State) (lane : Nat) (d : Dir) : Prop :=
  ∃ h ∈ s.heads, h.lane = lane ∧ h.face = d ∧ h.intended ≠ .cross

/-- No lane invites traffic from both ends (R46, R58). -/
def OneWay (s : State) : Prop := ∀ lane, ¬ (Invited s lane .rising ∧ Invited s lane .falling)

/-- The reversal inhibit is set while any overlay is present (R107, R122). -/
def OverlayInhibits (s : State) : Prop := s.store.overlays ≠ [] → s.plan.inhibit = true

/-- A section's occupancy lies between 0 and its capacity, 0 where it is CLEAR, at least 1 where OCCUPIED (R28, R30). -/
def SectionRecord.Sound (x : SectionRecord) : Prop :=
  x.occupancy ≤ x.capacity ∧ (x.state = .clear → x.occupancy = 0) ∧ (x.state = .occupied → 1 ≤ x.occupancy)

/-- Every section record is sound. -/
def SectionsSound (s : State) : Prop := ∀ x ∈ s.count.sections, x.Sound

/-- At most 8 transactions queued, and none but the first in flight (R149). -/
def QueueBound (s : State) : Prop :=
  s.chain.queue.length ≤ 8 ∧ ∀ e ∈ s.chain.queue.tail, e.inFlight = false

/-- Every run and count of the head and node records lies within its range (R84, R144, R145). -/
def RunsInRange (s : State) : Prop :=
  (∀ h ∈ s.heads, h.wrongRun ≤ 3) ∧
    ∀ r ∈ s.chain.nodes, r.missRun ≤ 25 ∧ r.dataRun ≤ 50 ∧ r.busyRun ≤ 250 ∧ r.disagreements ≤ 255

/-- The head records stand for the heads that the image declares, each at its gantry, lane and face, by gantry, then lane,
then RISING before FALLING (R5, R43, R67). -/
def HeadsPlaced (s : State) : Prop :=
  ∀ b, s.image = some b →
    s.heads.map (fun h => (h.gantry, h.lane, h.face)) = (formHeads b).map (fun h => (h.gantry, h.lane, h.face))

/-- Every crossing point is FAULTY exactly while its recorded loop fault is set or its station's node is LOST (R24). -/
def FaultySound (s : State) : Prop :=
  ∀ b, s.image = some b → ∀ k lane c, crossing? s b k lane = some c →
    (c.faulty = true ↔ c.loopFault = true ∨ ∃ r, node? s (b.gantries.length + k + 1) = some r ∧ r.health = .lost)

/-- A lane record stands at its lane's number; in CLEARING or CLEARED it is in a context; and in CLEARED every section
of the lane is CLEAR (R15, R95, R97). -/
def ClearedEmpty (s : State) : Prop :=
  ∀ lane r, lane? s lane = some r →
    r.lane = lane ∧ (r.phase = .clearing ∨ r.phase = .cleared → r.context ≠ none) ∧
      (r.phase = .cleared → ∀ b, s.image = some b → ∀ x ∈ laneSections s b lane, x.state = .clear)

/-- A lane record agrees with the contexts: OPEN or CLOSED in none, or in a transition phase and held in the context it
names (R15, R86, R88). -/
def LaneRecord.Agrees (s : State) (r : LaneRecord) : Prop :=
  (r.context = none ∧ (r.phase = .opened ∨ r.phase = .closed)) ∨
    (r.lane ∈ (r.context.map (heldLanes s)).getD [] ∧ r.phase ≠ .opened ∧ r.phase ≠ .closed)

/-- The Lane Plan Unit's records agree with one another: six contexts and a pointer to one of them; lane records in
lane order; a context holds a lane once, and that lane names it; and no context is ACTIVE outside RUN (R15, R86, R87,
R88, R114, R115). -/
def PlanSound (s : State) : Prop :=
  s.plan.contexts.length = 6 ∧ s.plan.pointer < 6 ∧
    s.plan.lanes.map (·.lane) = (List.range s.plan.lanes.length).map (· + 1) ∧
    (∀ k < 6, (heldLanes s k).Nodup ∧ ∀ lane ∈ heldLanes s k, (lane? s lane).bind (·.context) = some k) ∧
    (∀ r ∈ s.plan.lanes, r.Agrees s) ∧
    (s.psc.part = .run ∨ ∀ c ∈ s.plan.contexts, c.isActive = false)

/-- In RUN no ACTIVE context has an advance left to take, and each waits with the reason that holds it (R90, R91, R95,
R98, R100, R101, R102). -/
def Examined (s : State) : Prop :=
  s.psc.part = .run → ∀ b, s.image = some b → ∀ (k : Nat) (body : CtxBody), ctx? s k = some (.active body) →
    WaitsBy s b body ∧
      (s.plan.hold.active = false → ∀ e ∈ body.entries, e.held = true → ∀ r, lane? s e.lane = some r →
        ¬ AdvanceMet s b r)

/-- In RUN and CONFIG the engine's result is the derivation over the present inputs: obstructions, intended aspects and
UNPROTECTED flags (R43, R44, R45, R54). -/
def Derived (s : State) : Prop :=
  s.psc.part = .run ∨ s.psc.part = .config → ∀ b, s.image = some b →
    s.obstructions = obstructionsOf b s.heads s.plan.lanes s.store.spans ∧
      (∀ h ∈ s.heads, h.intended = aspectAt ⟨b, s.plan.lanes, s.store.overlays, s.obstructions⟩ h.lane h.face
        (gantryT b h.face h.gantry)) ∧
      ∀ lane r, lane? s lane = some r →
        (r.unprotRising = true ↔ ∃ o ∈ s.obstructions, o.lane = lane ∧ o.face = .rising ∧ o.protecting = none) ∧
          (r.unprotFalling = true ↔ ∃ o ∈ s.obstructions, o.lane = lane ∧ o.face = .falling ∧ o.protecting = none)

/-- The present pattern is legal, by the kinds of the loaded bore, whose fixed lanes alone form a legal pattern; and until a
FRESH STARTUP ends every lane is CLOSED (R12, R14, R18). -/
def PatternSound (s : State) : Prop :=
  ∀ b, s.image = some b →
    Legal b (s.plan.lanes.map standingDir) ∧ Legal b (b.lanes.map (fun l => ownDir l.kind)) ∧
      s.plan.lanes.map (·.kind) = b.lanes.map (·.kind) ∧
      (s.psc.part = .startup → s.psc.startupKind = some .fresh → ∀ r ∈ s.plan.lanes, r.phase = .closed)

end Sys2Proof.Machine
end

