-- ==== Sys2Proof/Certificates/Slice0/Obligations.lean ====
section
/-! DEFINITION. The statements for the provers, in the order of OBLIGATIONS.json. -/

open Sys2Proof Sys2Proof.Machine

/-! ### The queue and the clock -/

/-- O1. A step takes the command at the front of the queue and runs its meaning with the queue's rest. -/
def Obligations.StepTakesFrontCommand : Prop :=
  ∀ (c : Instr) (rest : List Instr) (s : State), s.pending = c :: rest → step s = exec c { s with pending := rest }

/-- O2. On an empty queue a step moves only the counts of time and the queue, every other field of every record standing
(`State.untimed`; the model's choice, log 1); while RESET_N is low, the queue alone, and that only for a slot cut short
(log 28). -/
def Obligations.EmptyQueueRunsClock : Prop :=
  ∀ s : State, s.pending = [] → ∃ t, step s = .next t ∧ t.untimed = s.untimed ∧
    (s.pins.resetLow = true → t = { s with pending := t.pending } ∧ (s.chain.frame = none → t = s))

/-- O3. On an empty queue a millisecond passes: the hold timer falls by 100 ms at the end of every 100 ms, clearing
time, restore window and run clock count whole seconds, pending times, waits and replies grow older, and what falls
due is queued; where a chain frame is due, the rest of the frame under way is queued and the next one's start (R17,
R37, R86, R94, R96, R127, R136, R162, R179). Model's choices: logs 1, 4, 9, 16, 30. -/
def Obligations.TimePasses : Prop :=
  ∀ s : State, s.pending = [] → s.pins.resetLow = false →
    let due := ∃ b, s.image = some b ∧ polls s = true ∧ s.chain.untilNext = 0
    (due → ∃ t, step s = .next t ∧ t = { s with pending := t.pending } ∧
      (s.chain.frame = none → t.pending = [.chainFrameStart]) ∧
      ∀ f b, s.chain.frame = some f → s.image = some b →
        (f.cut = true → t.pending = [.nodeReplyWindowEnd f.slot none none, .chainFrameStart]) ∧
        (f.cut = false → t.pending =
          (List.range (b.gantries.length + b.stations.length + 1 - f.slot)).map
            (fun i => .nodeReplyWindowEnd (f.slot + i) none none) ++
          (if f.serviceBegun then [] else [.serviceSlotStart]) ++ [.serviceComplete none none, .chainFrameStart])) ∧
    (¬ due → ∃ t, step s = .next t ∧ t.chain.untilNext = s.chain.untilNext - 1 ∧
      (s.psc.part = .run ∨ s.psc.part = .config →
        (s.plan.runMs < 999 → t.plan.runClock = s.plan.runClock ∧ t.plan.runMs = s.plan.runMs + 1) ∧
        (999 ≤ s.plan.runMs → t.plan.runClock = min 4294967295 (s.plan.runClock + 1) ∧ t.plan.runMs = 0)) ∧
      (s.psc.part ≠ .run → s.psc.part ≠ .config →
        t.plan.runClock = s.plan.runClock ∧ t.plan.runMs = s.plan.runMs) ∧
      (∀ lane r, lane? s lane = some r → ∃ r', lane? t lane = some r' ∧ r'.holdRunning = r.holdRunning ∧
        (r.phase = .clearing → r.holdRunning = true →
          (r.holdMs < 99 → r'.holdRemaining = r.holdRemaining ∧ r'.holdMs = r.holdMs + 1) ∧
          (99 ≤ r.holdMs → r'.holdRemaining = r.holdRemaining - 100 ∧ r'.holdMs = 0) ∧
          (r'.holdRemaining = 0 → s.image ≠ none → .holdTimerExpiry r.lane ∈ t.pending)) ∧
        (r.phase ≠ .clearing ∨ r.holdRunning = false → r'.holdRemaining = r.holdRemaining) ∧
        (r.clearingTime = none → r'.clearingTime = none) ∧
        ∀ time, r.clearingTime = some time →
          (r.clearMs < 999 → r'.clearingTime = some time ∧ r'.clearMs = r.clearMs + 1) ∧
          (999 ≤ r.clearMs → r'.clearingTime = some (min 65535 (time + 1)) ∧ r'.clearMs = 0 ∧
            ∀ b, s.image = some b → r.phase = .clearing → time < b.clearingTimeout →
              b.clearingTimeout ≤ min 65535 (time + 1) → .clearingTimeout r.lane ∈ t.pending)) ∧
      (∀ (i : Nat) (x : SectionRecord) (l : Link) (window ms : Nat), s.count.sections[i]? = some x →
        x.state = .restorePending l window ms → ∃ x', t.count.sections[i]? = some x' ∧
          (ms < 999 → x'.state = .restorePending l window (ms + 1)) ∧
          (999 ≤ ms → x'.state = .restorePending l (window - 1) 0) ∧
          (window = 0 ∨ (999 ≤ ms ∧ window = 1) → .restoreWindowExpiry x.lane x.index ∈ t.pending)) ∧
      (∀ (i : Nat) (r : InputRecord), s.inputs[i]? = some r → ∃ r', t.inputs[i]? = some r' ∧
        (atActiveLevel r.cfg.polarity (contactOf s i) = r.active → r'.pending = 0) ∧
        (atActiveLevel r.cfg.polarity (contactOf s i) ≠ r.active → r'.pending = r.pending + 1 ∧
          (filterMs r.cfg.filter ≤ r.pending + 1 → .filteredLevelChange i ∈ t.pending))) ∧
      (s.loader.phase = .due ∨ s.loader.phase = .waiting → t.loader.waitMs = s.loader.waitMs + 1 ∧
        (9 ≤ s.loader.waitMs → s.loader.phase = .due → .cfgIdleTimeout ∈ t.pending) ∧
        (9 ≤ s.loader.waitMs → s.loader.phase = .waiting → .cfgRetryDue ∈ t.pending)) ∧
      (∀ l, let sentBy := fun (reply : List Byte) (age : Nat) =>
          10 * 115200 + (reply.length + 4) * 10000 ≤ (age + 1) * 115200 → .replySent l ∈ t.pending
        (∀ q rest, (s.unit l).leaving = q :: rest → sentBy q.reply q.age ∧
          (t.unit l).leaving = { q with age := q.age + 1 } ::
            rest.map (fun later => { later with age := min 10 (later.age + 1) })) ∧
        ∀ e, (s.unit l).exchange = some e →
          ((s.unit l).leaving = [] → sentBy e.reply e.age ∧ (t.unit l).exchange = some { e with age := e.age + 1 }) ∧
          ((s.unit l).leaving ≠ [] → (t.unit l).exchange = some { e with age := min 10 (e.age + 1) })) ∧
      ∀ f, s.chain.frame = some f → f.cut = true → .nodeReplyWindowEnd f.slot none none ∈ t.pending)

/-! ### Reset and restart -/

/-- O4. What reset leaves, by R115, R159, R160, R174, R183 and R186, and every invariant of the statements below
there. -/
def Obligations.ResetState : Prop :=
  let s := State.reset
  s.psc = ⟨.loading, none, 0, ⟨.unset, .unset, none⟩⟩ ∧ s.image = none ∧
    s.loader.transaction = .header ∧ s.loader.phase = .due ∧ s.loader.failed = 0 ∧ s.loader.bus = [] ∧
    (∀ l, (s.unit l).rx.phase = .awaitStart ∧ (s.unit l).serving = false ∧ (s.unit l).exchange = none ∧
      (s.unit l).leaving = [] ∧ (s.unit l).overrun = false ∧ (s.unit l).vector = BitVec.allOnes 154 ∧ attn s l = true) ∧
    s.plan.contexts = List.replicate 6 Ctx.free ∧ s.plan.pointer = 0 ∧ s.plan.inhibit = true ∧
    s.plan.hold.active = false ∧ s.plan.lanes = [] ∧ s.count = ⟨[], []⟩ ∧ s.obstructions = [] ∧ s.heads = [] ∧
    s.store = ⟨[], []⟩ ∧ s.inputs = [] ∧ s.chain.frame = none ∧ s.chain.lastEnded = none ∧ s.chain.nodes = [] ∧
    s.chain.queue = [] ∧ s.chain.resultA = none ∧ s.chain.resultB = none ∧ protectFail s = true ∧
    polls s = false ∧ ClearedEmpty s ∧ OneWay s ∧ PlanSound s ∧
    QueueBound s ∧ SectionsSound s ∧ OverlayInhibits s ∧ PatternSound s ∧ Derived s ∧ Examined s ∧ RunsInRange s ∧
    FaultySound s ∧ HeadsPlaced s

/-- O5. RESET_N driven low, and its release, leave every state as reset leaves it, but for the queue, the level of
RESET_N, the contact lines and a node slot in progress, which goes to its end; ATTN and PROTECT_FAIL are asserted and
the units serve nothing. A falling edge of RESTART_N does nothing while RESET_N is low; in CONFIG, FAULT and LOADING it
begins the load anew, a read in progress abandoned, the slot in progress going to its end and each reply due still to
be sent in full; in RUN and STARTUP it begins a STARTUP of kind RESTARTED (R138, R160, R171, R179, R183). Model's
choices: logs 9, 15, 27, and that a read so abandoned leaves no stop event and both bus lines released (log 43). -/
def Obligations.ResetAndRestartPins : Prop :=
  (∀ s : State,
    let held := fun (low : Bool) (t : State) => t.pins = ⟨low, s.pins.contacts⟩ ∧ t.pending = s.pending ∧ SlotCut s t ∧
      { t with pins := State.reset.pins, pending := [], chain := { t.chain with frame := none } } = State.reset ∧
      protectFail t = true ∧ polls t = false ∧ ∀ l, attn t l = true
    (∃ t, exec .resetNAssert s = .next t ∧ held true t) ∧ ∃ t, exec .resetNRelease s = .next t ∧ held false t) ∧
  ∀ (s : State) (b : Bore),
    (s.pins.resetLow = true → exec .restartNFall s = .next s) ∧
    (s.pins.resetLow = false → s.psc.part = .config ∨ s.psc.part = .fault ∨ s.psc.part = .loading →
      ∃ t, exec .restartNFall s = .next t ∧ t.psc = ⟨.loading, none, 0, ⟨.unset, .unset, none⟩⟩ ∧ t.image = none ∧
        t.loader.transaction = .header ∧ t.loader.phase = .due ∧ t.loader.failed = 0 ∧ t.loader.bus = [] ∧
        cfgBus t = some ⟨.released, .released⟩ ∧ t.plan = State.reset.plan ∧
        t.count = ⟨[], []⟩ ∧ t.heads = [] ∧ t.obstructions = [] ∧ t.store = ⟨[], []⟩ ∧ t.inputs = [] ∧
        t.chain = { State.reset.chain with frame := t.chain.frame } ∧ SlotCut s t ∧
        t.pins = s.pins ∧
        ∀ l, (t.unit l).rx.phase = .awaitStart ∧ (t.unit l).serving = false ∧ (t.unit l).exchange = none ∧
          RepliesLeft (s.unit l) (t.unit l) ∧ (t.unit l).overrun = false ∧
          (t.unit l).vector = BitVec.allOnes 154) ∧
    (s.pins.resetLow = false → s.image = some b → s.psc.part = .run ∨ s.psc.part = .startup →
      ∃ t, exec .restartNFall s = .next t ∧
        t.psc = { s.psc with part := .startup, startupKind := some .restarted, startupFrames := 0 } ∧
        t.image = some b)

/-- O6. What a restart proper keeps and what it sets back, block by block, with the records of the image's nodes,
inputs and crossing points, the run clock at 0, and the frame under way cut short (R18, R19, R32, R43, R67, R86, R114,
R117, R121, R126, R137, R138, R144, R155, R172, R183). Model's choices: logs 9, 38, and the count of milliseconds within
the run clock's second (log 30). -/
def Obligations.RestartProperKeepsAndDrops : Prop :=
  ∀ (s : State) (b : Bore), s.pins.resetLow = false → s.image = some b →
    s.psc.part = .run ∨ s.psc.part = .startup →
    ∃ t, exec .restartNFall s = .next t ∧
      t.obstructions = s.obstructions ∧ t.store = s.store ∧ t.pins = s.pins ∧
      (∀ l, (t.unit l).rx.phase = .awaitStart ∧ (t.unit l).overrun = false ∧
        (t.unit l).vector = BitVec.allOnes 154 ∧ (t.unit l).exchange = (s.unit l).exchange ∧
        (t.unit l).leaving = (s.unit l).leaving) ∧
      (∀ L r, lane? s L = some r → ∃ r', lane? t L = some r' ∧ r'.overdue = false ∧ r'.conflict = false ∧
        r'.unprotRising = r.unprotRising ∧ r'.unprotFalling = r.unprotFalling ∧
        (r.phase = .opened ∨ r.phase = .closed → r'.phase = r.phase ∧ r'.direction = r.direction) ∧
        (r.phase ≠ .opened → r.phase ≠ .closed → r'.phase = .closed ∧ r'.direction = none ∧ r'.context = none ∧
          r'.clearingTime = none ∧ r'.holdRunning = false ∧ r'.holdRemaining = 0)) ∧
      (∀ k body, ctx? s k = some (.active body) → ctx? t k = some (.done { body with
        entries := body.entries.map (fun e => { e with held := false }), wait := .unset } .abortedRestart)) ∧
      (∀ k body o, ctx? s k = some (.done body o) → ctx? t k = some (.done body o)) ∧
      t.plan.pointer = s.plan.pointer ∧ t.plan.inhibit = true ∧ t.plan.hold.linkA = false ∧
      t.plan.hold.linkB = false ∧
      t.count.sections = s.count.sections.map (fun x => { x with state := .disturbed }) ∧
      (∀ c ∈ t.count.crossings, c.phase = .idle ∧ c.accepted = ⟨false, false⟩ ∧ c.candidate = none ∧ c.count = 0 ∧
        c.loopFault = false ∧ c.faulty = false) ∧
      t.heads.map (fun h => (h.gantry, h.lane, h.face, h.intended)) =
        s.heads.map (fun h => (h.gantry, h.lane, h.face, h.intended)) ∧
      (∀ h ∈ t.heads, h.reported = .unknown ∧ h.strings = 0 ∧ h.proof = .unknown ∧ h.counter = 0 ∧
        h.probe = .unset ∧ h.wrongRun = 0) ∧
      (∀ r ∈ t.inputs, r.active = false ∧ r.pending = 0) ∧
      (∀ r ∈ t.chain.nodes, r.health = .integrating ∧ r.lastStatus = none ∧ r.missRun = 0 ∧ r.dataRun = 0 ∧
        r.busyRun = 0 ∧ r.busyExpired = false ∧ r.disagreements = 0 ∧ r.answeredA = false ∧ r.answeredB = false) ∧
      t.plan.runClock = 0 ∧ t.plan.runMs = 0 ∧ t.plan.lanes.length = s.plan.lanes.length ∧ t.plan.contexts.length = s.plan.contexts.length ∧
      t.count.crossings.map (fun c => (c.station, c.lane)) =
        (List.range b.stations.length).flatMap (fun k => (List.range b.lanes.length).map (fun i => (k, i + 1))) ∧
      t.inputs.map (·.cfg) = b.inputs ∧
      t.chain.nodes.map (fun r => (r.node, r.kind)) =
        (List.range b.gantries.length).map (fun i => (i + 1, NodeKind.gantry)) ++
          (List.range b.stations.length).map (fun i => (b.gantries.length + i + 1, NodeKind.station)) ∧
      SlotCut s t ∧ t.chain.untilNext = s.chain.untilNext ∧
      t.chain.nextCycle = 0 ∧ t.chain.lastEnded = none ∧ t.chain.queue = [] ∧ t.chain.resultA = none ∧
      t.chain.resultB = none

/-! ### The links -/

/-- O7. The receiver, from AWAIT_START, takes from the bytes of the frame of any payload of 1 to 200 bytes exactly
that payload, and is in AWAIT_START again (R177). -/
def Obligations.LinkFrameRoundTrip : Prop :=
  ∀ p : List Byte, 1 ≤ p.length → p.length ≤ 200 →
    Receiver.idle.run ((linkFrame p).map LineEvent.byte) = (Receiver.idle, .taken p, true)

/-- O8. The discards of R178: a bad length byte, a framing error within a frame, a CRC that does not agree; the frame
they end, and a gap, change nothing but the receiver, which is in AWAIT_START with the late byte judged afresh.
Model's choice: log 18. -/
def Obligations.PartialFramesDiscarded : Prop :=
  (∀ (r : Receiver) (n : Byte), r.phase = .awaitLength → n.toNat = 0 ∨ 200 < n.toNat →
    r.step (.byte n) = (Receiver.idle, .discarded)) ∧
  (∀ r : Receiver, r.phase ≠ .awaitStart → r.step .framingError = (Receiver.idle, .discarded)) ∧
  (∀ (r : Receiver) (hi lo : Byte), r.phase = .crc → r.crc = [hi] →
    [hi, lo] ≠ be16 (crc16 (byte r.length :: r.payload)).toNat → r.step (.byte lo) = (Receiver.idle, .discarded)) ∧
  (∀ (s : State) (l : Link) (es : List LineEvent), s.pins.resetLow = false →
    ((s.unit l).rx.run es).2 = (.discarded, false) →
    exec (.linkFrameDiscard l es) s = .next (s.setUnit l { s.unit l with rx := Receiver.idle })) ∧
  (∀ (s : State) (l : Link) (es : List LineEvent) (late : LineEvent), s.pins.resetLow = false →
    ((s.unit l).rx.run es).1.phase ≠ .awaitStart → ((s.unit l).rx.run es).2.2 = false →
    exec (.linkGapTimeout l es late) s = .next (s.setUnit l { s.unit l with
      rx := if late = .byte 0xA5#8 then { Receiver.idle with phase := .awaitLength } else Receiver.idle }))

/-- O9. A byte's ten bits on a link, what a receiver reads of them, the bits of a reply being sent, and a chain
transmission between two levels of its driver enable: the header and the first command, then each command; and how
the configuration bus is driven (R135, R161, R176, R179, R192). Model's choices: that a transmission is whole within its
command, so that both enables stand low between two commands (log 26), that what passed in a slot is kept as its channel
line (log 34), that the header and node 1's command are two transmissions (log 40), and that both lines of the
configuration bus are released in LOADING while no attempt reads (log 41). -/
def Obligations.SerialLines : Prop :=
  (∀ b : Byte, (serialBits b).length = 10 ∧ (serialBits b)[0]? = some false ∧ (serialBits b)[9]? = some true ∧
    (∀ i < 8, (serialBits b)[i + 1]? = some (b.getLsbD i)) ∧ readSerial (serialBits b) = some (.byte b)) ∧
  (∀ bits : List Bool, bits.length = 8 → readSerial (false :: bits ++ [false]) = some .framingError) ∧
  idleLevel = true ∧
  (∀ u : LinkUnit, (u.leaving = [] → u.exchange = none → transmitBits u = []) ∧
    ∀ reply, (∃ q rest, u.leaving = q :: rest ∧ q.reply = reply) ∨
        (u.leaving = [] ∧ ∃ e, u.exchange = some e ∧ e.reply = reply) →
      (transmitBits u).length = 10 * (linkFrame reply).length ∧
        ∀ i c, (linkFrame reply)[i]? = some c → ((transmitBits u).drop (10 * i)).take 10 = serialBits c) ∧
  (∀ s : State, s.pins.resetLow = false →
    (s.psc.part = .loading → s.loader.phase = .reading → cfgBus s = some ⟨.transacting, .transacting⟩) ∧
    (s.psc.part = .loading → s.loader.phase ≠ .reading → cfgBus s = some ⟨.released, .released⟩) ∧
    (s.psc.part = .startup ∨ s.psc.part = .run → cfgBus s = some ⟨.low, .released⟩) ∧
    (s.psc.part = .config ∨ s.psc.part = .fault → cfgBus s = some ⟨.released, .released⟩)) ∧
  (∀ block : List Byte, block ≠ [] → transmission block =
    .driverEnable true :: block.map ChannelEvent.byte ++ [.driverEnable false]) ∧
  (∀ s : State, driverEnables s = (false, false) ∧ (s.chain.frame = none → channelLine s = []) ∧
    ∀ f, s.chain.frame = some f →
      (f.slot = 1 → channelLine s = transmission f.header ++ transmission f.command) ∧
        (f.slot ≠ 1 → channelLine s = transmission f.command))

/-- O10. The last byte of a reply ends the serving, and a RELOAD or RESTART that waited for it takes effect, the other
link's reply left to be sent in full; the replies so left are sent first, the oldest first, and end nothing else; a frame
taken while the unit serves sets OVERRUN and nothing else, whatever request it spells; one taken in LOADING is
discarded and sets no flag (R160, R171, R179, R180, R181, R183). Model's choices: logs 9, 15, 16. -/
def Obligations.ServingEndsAndOverruns : Prop :=
  (∀ (s : State) (l : Link) (e : Exchange), s.pins.resetLow = false → (s.unit l).serving = true →
    (s.unit l).exchange = some e →
    ((s.unit l).leaving = [] → e.action = .unset →
      exec (.replySent l) s = .next (s.setUnit l { s.unit l with serving := false, exchange := none })) ∧
    ((s.unit l).leaving = [] → e.action = .reload →
      ∃ t, exec (.replySent l) s = .next t ∧ t.psc = ⟨.loading, none, 0, ⟨.unset, .unset, none⟩⟩ ∧ t.image = none ∧
        t.plan = State.reset.plan ∧ t.heads = [] ∧ t.count = ⟨[], []⟩ ∧ t.store = ⟨[], []⟩ ∧ t.inputs = [] ∧
        t.chain = { State.reset.chain with frame := t.chain.frame } ∧ SlotCut s t ∧
        (t.unit l).leaving = [] ∧ (∀ k, k ≠ l → RepliesLeft (s.unit k) (t.unit k)) ∧
        ∀ k, (t.unit k).serving = false ∧ (t.unit k).exchange = none ∧ (t.unit k).overrun = false ∧
          (t.unit k).vector = BitVec.allOnes 154) ∧
    ((s.unit l).leaving = [] → e.action = .restart →
      exec (.replySent l) s =
        exec .restartNFall (s.setUnit l { s.unit l with serving := false, exchange := none }))) ∧
  (∀ (s : State) (l : Link) (q : Leaving) (rest : List Leaving), s.pins.resetLow = false →
    (s.unit l).leaving = q :: rest →
    exec (.replySent l) s = .next (s.setUnit l { s.unit l with leaving := rest })) ∧
  ∀ (s : State) (l : Link), s.pins.resetLow = false →
    (s.psc.part ≠ .loading → (s.unit l).serving = true →
      (∀ p, exec (.overrun l p) s =
        .next (s.setUnit l { s.unit l with rx := Receiver.idle, overrun := true })) ∧
      ∀ i r, Instr.request? i = some r → r.link = l →
        exec i s = .next (s.setUnit l { s.unit l with rx := Receiver.idle, overrun := true })) ∧
    (s.psc.part = .loading → ∀ i r, Instr.request? i = some r → r.link = l →
      exec i s = .next (s.setUnit l { s.unit l with rx := Receiver.idle }))

/-- O11. The unit's checks 2 to 5 in order, each with nothing else changed: for every request STATE where the part
state does not admit it, then LOCKED, then FORMAT for a wrong length; and a code that is no request code is FORMAT in
every part state but LOADING, the code echoed (R181, R182). -/
def Obligations.RequestGating : Prop :=
  (∀ (i : Instr) (r : Request) (s : State), Instr.request? i = some r → Ready s r.link →
    (¬ Gated r.code s.psc.part →
      exec i s = .next (s.answered r.link r.code r.fields .state [] .unset)) ∧
    (Gated r.code s.psc.part → locked s r.link = true → 0x20 ≤ r.code →
      exec i s = .next (s.answered r.link r.code r.fields .locked [] .unset)) ∧
    (Admitted s r.link r.code → BadLength r.code r.fields →
      exec i s = .next (s.answered r.link r.code r.fields .format [] .unset))) ∧
  ∀ (s : State) (l : Link) (c : Byte) (fs : List Byte), Ready s l →
    ¬ (0x10 ≤ c.toNat ∧ c.toNat ≤ 0x1A) → ¬ (0x20 ≤ c.toNat ∧ c.toNat ≤ 0x2D) →
    ¬ (0x30 ≤ c.toNat ∧ c.toNat ≤ 0x32) →
    exec (.unknownRequestCode l (c :: fs)) s = .next (s.answered l c.toNat fs .format [] .unset)

/-! ### The reads -/

/-- O12. STATUS answers its 32 bytes, clears the link's OVERRUN and changes nothing else; SUMMARY answers twenty bytes
that hold every flag of the link's vector at its place, the reserved bits 0, clears that vector and changes nothing
else (R185, R187, chapter 10). -/
def Obligations.StatusAndSummary : Prop :=
  (∀ (s : State) (l : Link), Admitted s l 0x10 →
    ∃ counts : List Byte, counts.length = 13 ∧ (s.image = none → counts = List.replicate 13 0#8) ∧
      (∀ b, s.image = some b → counts =
        [byte b.lanes.length, byte b.gantries.length, byte b.stations.length, byte b.zones.length,
          byte (b.gantries.length + b.stations.length)] ++ be32 (clearHold b) ++ be32 (computedClearHold b)) ∧
      exec (.status l []) s = .next (s.setUnit l { (s.unit l).replying 0x10 [] .ok
        ([byte (codePart s.psc.part), byte (codeStartup s.psc.startupKind)] ++ be16 s.psc.startupFrames ++
          [byte (codeLoad s.psc.loadFault.code), byte (codeTable s.psc.loadFault.table),
            byte (codeOr255 s.psc.loadFault.entry), byte (bit01 s.plan.inhibit),
            byte (bit01 s.plan.hold.linkA + 2 * bit01 s.plan.hold.linkB)] ++
          be16 (inputBits s.plan.hold.inputs) ++
          [byte (bit01 (protectFail s)), byte (bit01 (locked s .a) + 2 * bit01 (locked s .b)),
            byte (bit01 (s.unit l).overrun)] ++
          be32 s.plan.runClock ++ [byte (codeOr255 s.chain.lastEnded)] ++ counts) .unset with overrun := false })) ∧
  ∀ (s : State) (l : Link), Admitted s l 0x11 →
    ∃ data : List Byte,
      exec (.summary l []) s =
        .next (s.setUnit l { (s.unit l).replying 0x11 [] .ok data .unset with vector := 0#154 }) ∧
      data.length = 20 ∧
      (∀ i, i < 154 → (data.getD (i / 8) 0#8).getLsbD (7 - i % 8) = (s.unit l).vector.getLsbD i) ∧
      ∀ i, i < 6 → (data.getD 19 0#8).getLsbD i = false

/-- O13. READ_LANE answers the 15 bytes of the lane's record, READ_SECTIONS the lane's sections in index order and its
crossing points in station order, READ_GANTRY the node's health and answered flags and the gantry's heads in head
order, and they change nothing else; READ_NODE answers the 11 bytes of the node's record as held, then clears
BUSY_EXPIRED, recorded in NODES at both units where it was set, and changes nothing else (R42, R85, R112, R156, R188,
chapter 10). -/
def Obligations.ReadRoadRecords : Prop :=
  (∀ (s : State) (l : Link) (L : Byte) (r : LaneRecord), Admitted s l 0x12 → lane? s L.toNat = some r →
    exec (.readLane l [L]) s = .next (s.answered l 0x12 [L] .ok
      ([byte r.lane, byte (codeKind r.kind), byte (codeEscape r.escape), byte (codePhase r.phase),
        byte (codeDir r.direction), byte (codeOr255 r.context),
        byte (bit01 r.overdue + 2 * bit01 r.unprotRising + 4 * bit01 r.unprotFalling + 8 * bit01 r.conflict),
        byte (bit01 r.holdRunning)] ++ be16 (r.holdRemaining / 100) ++
        (match r.clearingTime with
          | some t => 1#8 :: be16 t
          | none => [0#8, 0#8, 0#8]) ++
        (match closureOf s r.lane with
          | some o =>
            match o.protecting with
            | some g => [1#8, byte g]
            | none => [2#8, 0#8]
          | none => [0#8, 0#8])) .unset)) ∧
  (∀ (s : State) (l : Link) (b : Bore) (L : Byte), Admitted s l 0x13 → s.image = some b → 1 ≤ L.toNat →
    L.toNat ≤ b.lanes.length →
    let secs := (List.range (b.stations.length - 1)).filterMap (sectionAt? s b L.toNat)
    let points := (List.range b.stations.length).filterMap (fun k => crossing? s b k L.toNat)
    exec (.readSections l [L]) s = .next (s.answered l 0x13 [L] .ok
      ([L, byte secs.length, byte points.length] ++
        secs.flatMap (fun x => be16 x.capacity ++ be16 x.occupancy ++
          (match x.state with
            | .clear => [0#8, 0#8, 0#8]
            | .occupied => [1#8, 0#8, 0#8]
            | .disturbed => [2#8, 0#8, 0#8]
            | .prepared mark => [byte (3 + 8 * bit01 mark), 0#8, 0#8]
            | .restorePending q w _ => byte (4 + 16 * codeLink (some q)) :: be16 w)) ++
        points.map (fun c => byte (codeDecode c.phase + 8 * bit01 c.faulty + 16 * bit01 c.loopFault))) .unset)) ∧
  (∀ (s : State) (l : Link) (b : Bore) (g : Byte) (r : NodeRecord), Admitted s l 0x14 → s.image = some b →
    1 ≤ g.toNat → g.toNat ≤ b.gantries.length → node? s g.toNat = some r →
    let hs := s.heads.filter (fun h => h.gantry = g.toNat)
    exec (.readGantry l [g]) s = .next (s.answered l 0x14 [g] .ok
      ([g, byte (codeHealth r.health), byte (bit01 r.answeredA + 2 * bit01 r.answeredB), byte hs.length] ++
        hs.flatMap (fun h =>
          [byte (match h.face with
              | .rising => h.lane - 1
              | .falling => h.lane + 5),
            byte (codeAspect h.intended.aspect), byte (codeAspect h.reported), byte h.strings,
            byte (codeProof h.proof + 16 * codeCause h.proof), byte h.counter, byte (codeProbe h.probe),
            byte h.wrongRun])) .unset)) ∧
  ∀ (s : State) (l : Link) (n : Byte) (r : NodeRecord), Admitted s l 0x16 → n.toNat ≤ 68 →
    node? s n.toNat = some r →
    let data := [byte r.node, byte (codeNodeKind r.kind), byte (codeHealth r.health), byte (codeStatus r.lastStatus),
      byte r.missRun, byte r.dataRun, byte r.busyRun, byte r.disagreements,
      byte (bit01 r.answeredA + 2 * bit01 r.answeredB), byte (bit01 r.busyExpired),
      byte (codeOr255 s.chain.lastEnded)]
    let read := { s.answered l 0x16 [n] .ok data .unset with
      chain := { s.chain with nodes := s.chain.nodes.set (n.toNat - 1) { r with busyExpired := false } } }
    ∃ t, exec (.readNode l [n]) s = .next t ∧ Replied t l 0x16 [n] .ok data .unset ∧
      (r.busyExpired = false → t = read) ∧
      (r.busyExpired = true → t = read.report (flagNode n.toNat) ∧ Recorded t (flagNode n.toNat) ∧
        ∀ k, (t.unit k).line = (read.unit k).line)

/-- O14. READ_CONTEXT answers the context's state and, where it is not FREE, its fields and entries with their
snapshots and sums; READ_CLOSURES and READ_OVERLAYS answer a count and the entries in order, READ_INPUTS the lock
states and the input records in number order, READ_SERVICE the link's own result record and the queue; and they change
nothing else (R113, R132, R133, R157, chapter 10). -/
def Obligations.ReadContextStoresAndInputs : Prop :=
  (∀ (s : State) (l : Link) (k : Byte), Admitted s l 0x15 →
    let fields := fun (x : CtxBody) (outcome : Byte) =>
      [byte (codeLink (some x.origin)), byte (codeWait x.wait), outcome] ++ be32 x.started ++
        [byte x.entries.length] ++ x.entries.flatMap (fun e =>
          [byte e.lane, if e.start = none then 0#8 else 1#8, byte (codeDir e.start), byte (codeTarget e.target),
            byte (bit01 e.held)] ++
          (match e.snapshot with
            | none => [0#8]
            | some occ => byte occ.length :: (if occ = [] then [] else occ.flatMap be16 ++ be16 occ.sum)))
    (ctx? s k.toNat = some .free →
      exec (.readContext l [k]) s = .next (s.answered l 0x15 [k] .ok [k, 0#8] .unset)) ∧
    (∀ x, ctx? s k.toNat = some (.active x) →
      exec (.readContext l [k]) s = .next (s.answered l 0x15 [k] .ok ([k, 1#8] ++ fields x 0#8) .unset)) ∧
    ∀ x o, ctx? s k.toNat = some (.done x o) →
      exec (.readContext l [k]) s =
        .next (s.answered l 0x15 [k] .ok ([k, 2#8] ++ fields x (byte (codeOutcome (some o)))) .unset)) ∧
  (∀ (s : State) (l : Link),
    (Admitted s l 0x17 →
      let present := (List.range s.store.spans.length).filterMap
        (fun k => (span? s k).map (fun sp => (k, sp)))
      exec (.readClosures l []) s = .next (s.answered l 0x17 [] .ok
        (byte present.length :: present.flatMap (fun p =>
          [byte p.1, byte p.2.lane] ++ be16 p.2.fromC ++ be16 p.2.toC ++ [byte (codeLink (some p.2.origin))] ++
            (match s.obstructions.find? (fun o => o.source = .span p.1) with
              | some o => [byte (codeDir (some o.face)), byte (o.protecting.getD 0)]
              | none => [0#8, 0#8]))) .unset)) ∧
    (Admitted s l 0x18 →
      exec (.readOverlays l []) s = .next (s.answered l 0x18 [] .ok
        (byte s.store.overlays.length :: s.store.overlays.flatMap (fun v =>
          (match v.target with
            | .zone z => [1#8, byte z]
            | .portal p => [2#8, byte p]) ++
          [byte (bit01 v.linkA + 2 * bit01 v.linkB)] ++ be16 (inputBits (v.inputs.map (fun x => x.input))) ++
            be16 (inputBits ((v.inputs.filter (fun x => x.active)).map (fun x => x.input))))) .unset))) ∧
  ∀ (s : State) (l : Link),
    (Admitted s l 0x19 →
      exec (.readInputs l []) s = .next (s.answered l 0x19 [] .ok
        ([byte (bit01 (locked s .a) + 2 * bit01 (locked s .b)), byte s.inputs.length] ++
          (s.inputs.mapIdx (fun i r =>
            [byte (codeFunction r.cfg.function), byte (codeInputTarget r.cfg.function),
              byte (codePolarity r.cfg.polarity), byte (codeFilter r.cfg.filter),
              (if contactOf s i = .closed then 1#8 else 0#8), byte (bit01 r.active)] ++ be16 r.pending)).flatten)
        .unset)) ∧
    (Admitted s l 0x1A →
      exec (.readService l []) s = .next (s.answered l 0x1A [] .ok
        ((match (match l with
            | .a => s.chain.resultA
            | .b => s.chain.resultB) with
          | none => [0#8]
          | some r => [1#8, byte r.node, byte (codeOperation r.operation), byte (codeSvcOutcome r.outcome),
              byte r.cycle, byte (codeStatus r.status), byte r.data.length] ++ r.data) ++
          byte s.chain.queue.length :: s.chain.queue.flatMap (fun e =>
            [byte (codeLink (some e.origin)), byte e.node, byte (codeOperation e.operation),
              if e.inFlight then 2#8 else 1#8])) .unset))

/-- O15. A read that names a lane, gantry, node or context that does not exist is answered RANGE with nothing else
changed, and so in FAULT, where there is none (R42, R85, R112, R113, R156, R188). -/
def Obligations.ReadsOfAbsentAreRange : Prop :=
  ∀ (s : State) (l : Link) (n : Byte),
    (Admitted s l 0x12 → lane? s n.toNat = none →
      exec (.readLane l [n]) s = .next (s.answered l 0x12 [n] .range [] .unset)) ∧
    (Admitted s l 0x13 → (∀ b, s.image = some b → n.toNat = 0 ∨ b.lanes.length < n.toNat) →
      exec (.readSections l [n]) s = .next (s.answered l 0x13 [n] .range [] .unset)) ∧
    (Admitted s l 0x14 → (∀ b, s.image = some b → n.toNat = 0 ∨ b.gantries.length < n.toNat) →
      exec (.readGantry l [n]) s = .next (s.answered l 0x14 [n] .range [] .unset)) ∧
    (Admitted s l 0x15 → s.plan.contexts.length = 6 → 5 < n.toNat →
      exec (.readContext l [n]) s = .next (s.answered l 0x15 [n] .range [] .unset)) ∧
    (Admitted s l 0x16 → node? s n.toNat = none →
      exec (.readNode l [n]) s = .next (s.answered l 0x16 [n] .range [] .unset))

/-! ### Changes of lanes -/

/-- O16. A CHANGE that passes every check: the context allocated becomes ACTIVE, each OPEN lane named enters CLOSING
and each CLOSED one CLEARING, and nothing else changes but what the engine and the Lane Plan Unit then do. The context
allocated is the lowest FREE one, else the first DONE one from the pointer upward, and none where all six are ACTIVE
(R13, R87, R88, R89, R93). Model's choice: log 10. -/
def Obligations.ChangeAccepted : Prop :=
  (∀ (s : State) (l : Link) (b : Bore) (ps : List (Byte × Byte)) (k : Nat), PlanSound s → Admitted s l 0x20 →
    s.image = some b → 1 ≤ ps.length → ps.length ≤ 4 → (ps.map (·.1)).Nodup →
    let fields := byte ps.length :: ps.flatMap (fun p => [p.1, p.2])
    let pairs := ps.filterMap (fun p => (targetOf p.2.toNat).map (fun g => (p.1.toNat, g)))
    (∀ p ∈ ps, 1 ≤ p.2.toNat ∧ p.2.toNat ≤ 3 ∧ ¬ Held s p.1.toNat ∧ ∃ r, lane? s p.1.toNat = some r ∧
      ¬ (r.kind = .fixedRising ∧ p.2 = 2#8) ∧ ¬ (r.kind = .fixedFalling ∧ p.2 = 1#8) ∧
      ¬ (r.phase = .opened ∧ codeDir r.direction = p.2.toNat) ∧ ¬ (r.phase = .closed ∧ p.2 = 3#8)) →
    (s.plan.inhibit = true → ∀ p ∈ ps, p.2 = 3#8) →
    (∃ pattern, PatternOf s (CommittedDir s pairs) pattern ∧ Legal b pattern) → allocation s = some k →
    ∃ t, exec (.change l fields) s = .next t ∧
      RoadSame { s.answered l 0x20 fields .ok [byte k] .unset with
        plan := { s.plan with pointer := (k + 1) % 6 } } t ∧
      (∃ body, ctx? t k = some (.active body) ∧ body.origin = l ∧ body.started = s.plan.runClock ∧
        body.entries.map (fun e => (e.lane, e.start, e.target, e.held)) =
          pairs.map (fun p => (p.1, (lane? s p.1).bind (fun r => if r.phase = .opened then r.direction else none),
            p.2, true)) ∧
        ∀ e ∈ body.entries, ∀ r, lane? s e.lane = some r → r.phase = .closed →
          e.snapshot = some ((laneSections s b e.lane).map (·.occupancy))) ∧
      (∀ p ∈ pairs, ∃ r r', lane? s p.1 = some r ∧ lane? t p.1 = some r' ∧ r'.context = some k ∧
        ((r.phase = .opened ∧ r'.direction = r.direction ∧ (r'.phase = .closing ∨ r'.phase = .clearing) ∧
            (s.plan.hold.active = true → r'.phase = .closing)) ∨
          (r.phase = .closed ∧ r'.direction = none ∧ r'.phase = .clearing ∧ r'.holdRunning = true ∧
            r'.holdRemaining = clearHold b ∧ r'.clearingTime = some 0))) ∧
      (∀ lane, ¬ Held s lane → lane ∉ pairs.map (·.1) →
        (lane? t lane).map laneHanded = (lane? s lane).map laneHanded) ∧
      Recorded t (flagContext k) ∧ ∀ p ∈ pairs, p.1 ≤ 6 → Recorded t (flagLane p.1)) ∧
  ∀ s : State, s.plan.contexts.length = 6 → s.plan.pointer < 6 →
    (∀ k, allocation s = some k ↔
      (ctx? s k = some .free ∧ ∀ j < k, ctx? s j ≠ some .free) ∨
        ((∀ j, ctx? s j ≠ some .free) ∧ ∃ i < 6, k = (s.plan.pointer + i) % 6 ∧
          (∃ body o, ctx? s k = some (.done body o)) ∧
          ∀ i' < i, ∃ body, ctx? s ((s.plan.pointer + i') % 6) = some (.active body))) ∧
    (allocation s = none ↔ ∀ c ∈ s.plan.contexts, c.isActive = true)

/-- O17. The Lane Plan Unit's checks of a CHANGE in their order, each refusal with nothing changed (R12, R13, R88). -/
def Obligations.ChangeChecksInOrder : Prop :=
  ∀ (s : State) (l : Link) (b : Bore), Admitted s l 0x20 → s.image = some b →
    (∀ fields : List Byte, fields ≠ [] →
      ¬ (1 ≤ field fields 0 ∧ field fields 0 ≤ 4 ∧ fields.length = 1 + 2 * field fields 0 ∧
        ((pairsOf fields.tail).map (·.1)).Nodup) →
      exec (.change l fields) s = .next (s.answered l 0x20 fields .format [] .unset)) ∧
    ∀ ps : List (Byte × Byte), 1 ≤ ps.length → ps.length ≤ 4 → (ps.map (·.1)).Nodup →
      let fields := byte ps.length :: ps.flatMap (fun p => [p.1, p.2])
      let refused := fun st => exec (.change l fields) s = .next (s.answered l 0x20 fields st [] .unset)
      let rangeBad := ∃ p ∈ ps, lane? s p.1.toNat = none ∨ p.2.toNat = 0 ∨ 3 < p.2.toNat
      let wrongWay := ∃ p ∈ ps, (lane? s p.1.toNat).any (fun r =>
        (decide (r.kind = .fixedRising) && p.2 == 2#8) || (decide (r.kind = .fixedFalling) && p.2 == 1#8)) = true
      let listed := ∃ p ∈ ps, Held s p.1.toNat
      let same := ∃ p ∈ ps, (lane? s p.1.toNat).any (fun r =>
        (decide (r.phase = .opened) && decide (codeDir r.direction = p.2.toNat)) ||
          (decide (r.phase = .closed) && p.2 == 3#8)) = true
      let opens := ∃ p ∈ ps, p.2.toNat ≠ 3
      let pairs := ps.filterMap (fun p => (targetOf p.2.toNat).map (fun g => (p.1.toNat, g)))
      let illegal := ∃ pattern, PatternOf s (CommittedDir s pairs) pattern ∧ ¬ Legal b pattern
      let lawful := ∃ pattern, PatternOf s (CommittedDir s pairs) pattern ∧ Legal b pattern
      let full := s.plan.contexts.length = 6 ∧ ∀ c ∈ s.plan.contexts, c.isActive = true
      (rangeBad → refused .range) ∧
      (¬ rangeBad → wrongWay → refused .notTidal) ∧
      (¬ rangeBad → ¬ wrongWay → listed → refused .busy) ∧
      (¬ rangeBad → ¬ wrongWay → ¬ listed → same → refused .noChange) ∧
      (¬ rangeBad → ¬ wrongWay → ¬ listed → ¬ same → opens → s.plan.inhibit = true → refused .inhibited) ∧
      (¬ rangeBad → ¬ wrongWay → ¬ listed → ¬ same → ¬ (opens ∧ s.plan.inhibit = true) → illegal →
        refused .pattern) ∧
      (¬ rangeBad → ¬ wrongWay → ¬ listed → ¬ same → ¬ (opens ∧ s.plan.inhibit = true) → lawful → full →
        refused .noContext)

/-- O18. CANCEL returns the held lanes of an ACTIVE context before its opening step and ends it; otherwise it is
refused RANGE, NOT_FOUND or TOO_LATE (R103, R104). -/
def Obligations.CancelReturnsLanes : Prop :=
  ∀ (s : State) (l : Link) (k : Byte), PlanSound s → Admitted s l 0x21 →
    (5 < k.toNat → exec (.cancel l [k]) s = .next (s.answered l 0x21 [k] .range [] .unset)) ∧
    (k.toNat ≤ 5 → (∀ body, ctx? s k.toNat ≠ some (.active body)) →
      exec (.cancel l [k]) s = .next (s.answered l 0x21 [k] .notFound [] .unset)) ∧
    ∀ body, ctx? s k.toNat = some (.active body) →
      let late := ∃ e ∈ body.entries, e.held = true ∧ (lane? s e.lane).any (fun r =>
        decide (r.phase = .openingBody) || decide (r.phase = .openingEntry)) = true
      (late → exec (.cancel l [k]) s = .next (s.answered l 0x21 [k] .tooLate [] .unset)) ∧
      (¬ late → ∃ t, exec (.cancel l [k]) s = .next t ∧ RoadSame (s.answered l 0x21 [k] .ok [] .unset) t ∧
        IdleStand s t ∧
        ctx? t k.toNat = some (.done { body with
          entries := body.entries.map (fun e => { e with held := false }), wait := .unset } .cancelled) ∧
        ∀ e ∈ body.entries, e.held = true → ∃ r r', lane? s e.lane = some r ∧ lane? t e.lane = some r' ∧
          r'.context = none ∧ r'.overdue = false ∧ r'.clearingTime = none ∧ r'.holdRunning = false ∧
          r'.holdRemaining = 0 ∧
          (r.phase ≠ .cleared → ∀ d, r.direction = some d → r'.phase = .opened ∧ r'.direction = some d) ∧
          (r.phase = .cleared ∨ r.direction = none → r'.phase = .closed ∧ r'.direction = none))

/-- O19. HOLD adds the link's origin and RESUME removes both link origins; under an active hold no lane, context or
aspect moves and every ACTIVE context waits with HOLD. ALLOW_REVERSAL is refused STATE while any overlay is present,
and clears the inhibit otherwise. RESUME and ALLOW_REVERSAL re-examine: no advance that its conditions allow is left,
and every wait reason is formed anew (R90, R102, R105, R106, R107, R108). -/
def Obligations.HoldResumeAndInhibit : Prop :=
  (∀ (s : State) (l : Link) (b : Bore), s.image = some b →
    let still := fun (t : State) =>
      t.plan.lanes.map laneHanded = s.plan.lanes.map laneHanded ∧ t.heads = s.heads ∧
        t.obstructions = s.obstructions ∧
        ∀ k body, ctx? s k = some (.active body) → ctx? t k = some (.active { body with wait := .hold })
    (Admitted s l 0x22 → ∃ t, exec (.hold l []) s = .next t ∧
      RoadSame { s.answered l 0x22 [] .ok [] .unset with
        plan := { s.plan with hold :=
          ⟨s.plan.hold.linkA || decide (l = .a), s.plan.hold.linkB || decide (l = .b), s.plan.hold.inputs⟩ } } t ∧
      still t ∧ (t.plan.hold ≠ s.plan.hold → Recorded t flagPart)) ∧
    (Admitted s l 0x23 → ∃ t, exec (.resume l []) s = .next t ∧
      RoadSame { s.answered l 0x23 [] .ok [] .unset with
        plan := { s.plan with hold := ⟨false, false, s.plan.hold.inputs⟩ } } t ∧
      IdleStand s t ∧ (s.plan.hold.inputs ≠ [] → still t) ∧ (PlanSound s → Examined t) ∧
      (t.plan.hold ≠ s.plan.hold → Recorded t flagPart))) ∧
  ∀ (s : State) (l : Link), Admitted s l 0x24 →
    (s.store.overlays ≠ [] →
      exec (.allowReversal l []) s = .next (s.answered l 0x24 [] .state [] .unset)) ∧
    (s.store.overlays = [] → ∃ t, exec (.allowReversal l []) s = .next t ∧
      RoadSame { s.answered l 0x24 [] .ok [] .unset with plan := { s.plan with inhibit := false } } t ∧
      IdleStand s t ∧ (s.plan.inhibit = true → Recorded t flagPart) ∧ (PlanSound s → Examined t))

/-- O20. No lane advances while the hold is active, whatever the command: none enters CLEARING from CLOSING, none
enters CLEARED, OPENING_BODY or OPENING_ENTRY, and, where the plan's records agree, none enters OPEN from
OPENING_ENTRY (R90, R91, R95, R99, R100, R101). -/
def Obligations.NoAdvanceUnderHold : Prop :=
  ∀ (i : Instr) (s t : State), exec i s = .next t → s.plan.hold.active = true → t.plan.hold.active = true →
    ∀ lane r r', lane? s lane = some r → lane? t lane = some r' →
      (r'.phase = .clearing → r.phase ≠ .closing) ∧ (r'.phase = .cleared → r.phase = .cleared) ∧
        (r'.phase = .openingBody → r.phase = .openingBody) ∧ (r'.phase = .openingEntry → r.phase = .openingEntry) ∧
        (PlanSound s → r'.phase = .opened → r.phase ≠ .openingEntry)

/-- O21. The re-examination of one context. Where every held lane is CLEARED, the opening step is taken exactly when
its four conditions hold, and no lane enters OPENING_BODY otherwise. Elsewhere each held lane takes the advance whose
conditions hold: CLOSING to CLEARING with a new snapshot, CLEARING to CLEARED, OPENING_BODY to OPENING_ENTRY,
OPENING_ENTRY to OPEN, the last one ending the context; and a lane with none stays (R91, R93, R95, R98, R99, R100,
R101). Model's choice: log 10. -/
def Obligations.OpeningStepAndAdvances : Prop :=
  ∀ (b : Bore) (k : Nat) (s : State) (body : CtxBody), PlanSound s → s.image = some b →
    ctx? s k = some (.active body) →
    let held := body.entries.filter (·.held)
    let cleared := ∀ e ∈ held, ∀ r, lane? s e.lane = some r → r.phase = .cleared
    let may := s.plan.hold.active = false ∧ (s.plan.inhibit = false ∨ ∀ e ∈ held, e.target = .closed) ∧
      (∀ e ∈ held, ∀ d, e.target = .opened d → ∀ h ∈ s.heads, h.lane = e.lane → h.face = otherDir d →
        (h.reported = .cross ∨ h.reported = .dark) ∧ ∃ n, node? s h.gantry = some n ∧ n.health = .good) ∧
      ∃ pattern, PatternOf s (OpenedDir body) pattern ∧ Legal b pattern
    let t := (examineCtx b k s).1
    (cleared → ¬ may → t = s) ∧
    (cleared → may → RoadSame s t ∧
      (∀ e ∈ held, ∀ d, e.target = .opened d → ∃ r', lane? t e.lane = some r' ∧ r'.phase = .openingBody ∧
        r'.direction = some d ∧ r'.context = some k) ∧
      (∀ e ∈ held, e.target = .closed → ∃ r', lane? t e.lane = some r' ∧ r'.phase = .closed ∧
        r'.direction = none ∧ r'.context = none) ∧
      ((∀ e ∈ held, e.target = .closed) → ∃ body', ctx? t k = some (.done body' .completed) ∧
        body'.wait = .unset ∧ body'.entries = body.entries.map (fun e => { e with held := false }))) ∧
    (∀ lane r r', lane? s lane = some r → lane? t lane = some r' → r.phase ≠ .openingBody →
      r'.phase = .openingBody → r.phase = .cleared ∧ cleared ∧ may) ∧
    (s.plan.hold.active = true → t = s) ∧
    (s.plan.hold.active = false → ¬ cleared → RoadSame s t ∧
      (∀ e ∈ held, ∀ r, lane? s e.lane = some r →
        (r.phase = .closing → ClosingMet s e.lane → (∃ r', lane? t e.lane = some r' ∧ r'.phase = .clearing ∧
          r'.direction = r.direction ∧ r'.context = some k ∧ r'.holdRunning = true ∧ r'.holdRemaining = clearHold b ∧
          r'.clearingTime = some 0) ∧ Recorded t (flagContext k) ∧ ∃ body', ctx? t k = some (.active body') ∧
            ∀ x ∈ body'.entries, x.lane = e.lane → x.held = true →
              x.snapshot = some ((laneSections s b e.lane).map (·.occupancy))) ∧
        (r.phase = .clearing → ClearingMet s b r → ∃ r', lane? t e.lane = some r' ∧ r'.phase = .cleared ∧
          r'.direction = targetDir e.target ∧ r'.context = r.context ∧ r'.holdRunning = false ∧ r'.holdRemaining = 0 ∧
          r'.clearingTime = none ∧ r'.overdue = false) ∧
        (∀ d, r.phase = .openingBody → r.direction = some d → BodyMet s b e.lane d →
          lane? t e.lane = some { r with phase := .openingEntry }) ∧
        (∀ d, r.phase = .openingEntry → r.direction = some d → EntryMet s b e.lane d → ∃ r',
          lane? t e.lane = some r' ∧ r'.phase = .opened ∧ r'.direction = some d ∧ r'.context = none) ∧
        (¬ AdvanceMet s b r → lane? t e.lane = some r)) ∧
      (held ≠ [] → (∀ e ∈ held, ∃ r d, lane? s e.lane = some r ∧ r.phase = .openingEntry ∧ r.direction = some d ∧
        EntryMet s b e.lane d) → ∃ body', ctx? t k = some (.done body' .completed) ∧ body'.wait = .unset ∧
          body'.entries = body.entries.map (fun e => { e with held := false })))

/-- O22. Every command keeps the re-examination complete: in RUN no ACTIVE context has an advance left that its
conditions allow, CLOSING, CLEARING, the opening step, OPENING_BODY and OPENING_ENTRY alike, and each waits with the
reason of R102: `Examined`, in states whose plan agrees with itself and whose head records stand where the image
places them (R90, R91, R95, R98, R100, R101, R102). Model's choices: logs 10, 35. -/
def Obligations.ExaminedKept : Prop :=
  ∀ s t : State, PlanSound s → HeadsPlaced s → Examined s → step s = .next t → Examined t

/-- O23. A hold timer that has run down stops with 0 remaining; with every section CLEAR and the hold inactive the
lane leaves CLEARING, and otherwise it stays there. A clearing time at the clearing timeout sets OVERDUE, recorded in
LANES, and nothing else. A HOLD_TIMER_EXPIRY or CLEARING_TIMEOUT before its count has come, or for a lane that is not
CLEARING, changes nothing (R94, R95, R96). Model's choice: log 4. -/
def Obligations.ClearingTimers : Prop :=
  (∀ (s : State) (b : Bore) (lane : Nat) (r : LaneRecord), PlanSound s → s.image = some b →
    lane? s lane = some r → r.phase = .clearing → r.holdRunning = true → r.holdRemaining = 0 →
    ∃ t r', exec (.holdTimerExpiry lane) s = .next t ∧ RoadSame s t ∧ IdleStand s t ∧ lane? t lane = some r' ∧
      r'.holdRunning = false ∧ r'.holdRemaining = 0 ∧
      (s.plan.hold.active = false → (∀ x ∈ laneSections s b lane, x.state = .clear) →
        r'.phase ≠ .clearing ∧ r'.phase ≠ .closing ∧ r'.overdue = false ∧ r'.clearingTime = none) ∧
      (s.plan.hold.active = true ∨ (∃ x ∈ laneSections s b lane, x.state ≠ .clear) →
        r'.phase = .clearing ∧ r'.direction = r.direction ∧ r'.context = r.context ∧
          r'.clearingTime = r.clearingTime ∧ r'.overdue = r.overdue)) ∧
  (∀ (s : State) (lane : Nat),
    ((∀ r, lane? s lane = some r → r.phase ≠ .clearing ∨ r.holdRunning = false ∨ r.holdRemaining ≠ 0) →
      exec (.holdTimerExpiry lane) s = .next s) ∧
    ((∀ b r time, s.image = some b → lane? s lane = some r → r.phase = .clearing → r.clearingTime = some time →
        time < b.clearingTimeout) → exec (.clearingTimeout lane) s = .next s)) ∧
  ∀ (s : State) (b : Bore) (lane : Nat) (r : LaneRecord) (time : Nat), s.image = some b →
    lane? s lane = some r → r.phase = .clearing → r.clearingTime = some time → b.clearingTimeout ≤ time →
    ∃ t, exec (.clearingTimeout lane) s = .next t ∧ RoadSame s t ∧
      t.plan = { s.plan with lanes := s.plan.lanes.set (lane - 1) { r with overdue := true } } ∧
      t.heads = s.heads ∧ t.obstructions = s.obstructions ∧
      (r.overdue = false → lane ≤ 6 → Recorded t (flagLane lane)) ∧
      (r.overdue = true → t = s)

/-- O24. Every command keeps CLEARED lanes empty: `ClearedEmpty` (R15, R95, R97). -/
def Obligations.ClearedLanesStayEmpty : Prop :=
  ∀ s t : State, ClearedEmpty s → step s = .next t → ClearedEmpty t

/-- O25. Every command keeps the present pattern legal: `PatternSound` (R12, R14, R99, R104, R110, R169). -/
def Obligations.PresentPatternLegalKept : Prop :=
  ∀ s t : State, PlanSound s → PatternSound s → step s = .next t → PatternSound t

/-- O26. The computed clear hold is the least multiple of 100 ms at or above 3600 · Lmax / v, and the clear hold is it
between the minimum hold and 600 000 ms (R92). -/
def Obligations.ClearHoldBounds : Prop :=
  ∀ b : Bore, 0 < b.crawl →
    (∃ m, computedClearHold b = 100 * m ∧ 3600 * longestSection b ≤ 100 * m * b.crawl ∧
      ∀ j < m, 100 * j * b.crawl < 3600 * longestSection b) ∧
    (∀ i < b.stations.length - 1, sectionLength b i ≤ longestSection b) ∧
    (longestSection b = 0 ∨ ∃ i < b.stations.length - 1, sectionLength b i = longestSection b) ∧
    (computedClearHold b < b.minHold * 1000 → clearHold b = b.minHold * 1000) ∧
    (b.minHold * 1000 ≤ computedClearHold b → computedClearHold b ≤ 600000 → clearHold b = computedClearHold b) ∧
    (b.minHold * 1000 ≤ computedClearHold b → 600000 < computedClearHold b → clearHold b = 600000)

/-! ### Aspect derivation -/

/-- O27. Promotion takes the nearest head at or upstream of the point that is not FAILED, none where all are; the lead
heads are those in the window, or else the next upstream head (R53, R54, R55, R60). -/
def Obligations.PromotionFindsNearest : Prop :=
  ∀ (b : Bore) (heads : List HeadRecord) (lane : Nat) (d : Dir), (b.gantries.map (·.chainage)).Pairwise (· < ·) →
    (∀ g ∈ b.gantries, g.chainage ≤ 8000) →
    (∀ t p, protectingHead b heads lane d t = some p ↔
      p ∈ faceHeads b lane d ∧ gantryT b d p ≤ t ∧ headFailed heads p lane d = false ∧
        ∀ q ∈ faceHeads b lane d, gantryT b d q ≤ t → headFailed heads q lane d = false →
          gantryT b d q ≤ gantryT b d p) ∧
    (∀ t, protectingHead b heads lane d t = none ↔
      ∀ q ∈ faceHeads b lane d, gantryT b d q ≤ t → headFailed heads q lane d = true) ∧
    ∀ p g, p ∈ faceHeads b lane d →
      (g ∈ leadHeads b lane d p ↔
        g ∈ faceHeads b lane d ∧ gantryT b d g < gantryT b d p ∧
          (gantryT b d p ≤ gantryT b d g + b.leadIn ∨
            ∀ h ∈ faceHeads b lane d, gantryT b d h < gantryT b d p →
              gantryT b d h + b.leadIn < gantryT b d p ∧ gantryT b d h ≤ gantryT b d g))

/-- O28. The classes of positions on a live face and off it, phase by phase, what an obstruction, an overlay or a
lead-in makes of them, and the aspect of each class, a LEAD position turned to its escape neighbour; the obstructions
of the lanes and spans; the entry head (R6, R7, R46 to R52, R54 to R59). Model's choice: that an entry closure on a lane
without an entry head has no end point and blocks no position (log 22). -/
def Obligations.ClassesAndAspects : Prop :=
  (∀ (v : Derive) (lane : Nat) (d : Dir) (t : Nat) (r : LaneRecord), from1 v.lanes lane = some r →
    let position := classAt v lane d t
    let upToEntry := ∀ te, entryT v.bore r.lane d = some te → t ≤ te
    let covered := ∃ o ∈ v.obstructions, o.lane = lane ∧ o.face = d ∧ ∃ e, o.endT = some e ∧ t ≤ e ∧
      ∀ p, o.protecting = some p → gantryT v.bore d p ≤ t
    let stopped := ∃ o ∈ v.overlays,
      (∃ z cfg, o.target = .zone z ∧ from1 v.bore.zones z = some cfg ∧
        t ≤ (if d = .rising then cfg.toC else 8000 - cfg.fromC)) ∨
      (o.target = .portal (if d = .rising then 1 else 2) ∧ ∀ te, entryT v.bore lane d = some te → t ≤ te)
    let led := ∃ o ∈ v.obstructions, o.lane = lane ∧ o.face = d ∧ ∃ p, o.protecting = some p ∧
      ((gantryT v.bore d p ≤ t + v.bore.leadIn ∧ t < gantryT v.bore d p) ∨ ∃ g ∈ o.leads, gantryT v.bore d g = t)
    let live := r.direction = some d ∧ r.phase ≠ .closed ∧ r.phase ≠ .cleared
    let blocked := covered ∨ stopped ∨ (r.phase = .openingBody ∧ upToEntry)
    (¬ live → position = .blocked) ∧ (live → blocked → position = .blocked) ∧
      (live → ¬ blocked → led → position = .lead) ∧
      (live → ¬ blocked → ¬ led → r.phase = .opened ∨ r.phase = .openingEntry → position = .clear) ∧
      (live → ¬ blocked → ¬ led → r.phase = .closing ∨ r.phase = .clearing ∨ r.phase = .openingBody →
        position = .exit)) ∧
  (∀ (v : Derive) (lane : Nat) (d : Dir) (t : Nat),
    let lower := 2 ≤ lane ∧ classAt v (lane - 1) d t = .clear
    let upper := lane + 1 ≤ v.lanes.length ∧ classAt v (lane + 1) d t = .clear
    let aspect := aspectAt v lane d t
    (classAt v lane d t = .blocked → aspect = .cross) ∧
      (classAt v lane d t = .clear ∨ classAt v lane d t = .exit → aspect = .arrow) ∧
      (classAt v lane d t = .lead → (¬ lower → ¬ upper → aspect = .cross) ∧
        (lower → ¬ upper → aspect = .divertLo) ∧ (¬ lower → upper → aspect = .divertHi) ∧
        ∀ r, lower → upper → from1 v.lanes lane = some r →
          aspect = if r.escape = .lo then .divertLo else .divertHi)) ∧
  (∀ (b : Bore) (heads : List HeadRecord) (lanes : List LaneRecord) (spans : List (Option Span)) (o : Obstruction),
    let guarded := fun (first : Option Nat) => o.protecting = first.bind (protectingHead b heads o.lane o.face) ∧
      (o.protecting = none → o.leads = []) ∧ ∀ p, o.protecting = some p → o.leads = leadHeads b o.lane o.face p
    o ∈ obstructionsOf b heads lanes spans ↔
      (o.source = .entry ∧ (∃ r ∈ lanes, r.lane = o.lane ∧ r.direction = some o.face ∧
        (r.phase = .closing ∨ r.phase = .clearing)) ∧ o.endT = entryT b o.lane o.face ∧
        guarded (entryT b o.lane o.face)) ∨
      ∃ k sp r, o.source = .span k ∧ spans[k]? = some (some sp) ∧ sp.lane = o.lane ∧
        from1 lanes o.lane = some r ∧ r.direction = some o.face ∧ r.phase ≠ .closed ∧ r.phase ≠ .cleared ∧
        o.endT = some (if o.face = .rising then sp.toC else 8000 - sp.fromC) ∧
        guarded (some (if o.face = .rising then sp.fromC else 8000 - sp.toC))) ∧
  ∀ (b : Bore) (lane : Nat) (d : Dir), (b.gantries.map (·.chainage)).Pairwise (· < ·) →
    (∀ g ∈ b.gantries, g.chainage ≤ 8000) →
    let approach := if d = .rising then Role.approach1 else .approach2
    let stands := fun (role : Role) (g : Nat) =>
      g ∈ faceHeads b lane d ∧ ∃ cfg, from1 b.gantries g = some cfg ∧ cfg.role = role
    (∀ g, g ∈ faceHeads b lane d ↔ ∃ cfg, from1 b.gantries g = some cfg ∧ 1 ≤ lane ∧ lane ≤ 6 ∧
      cfg.presence.getLsbD (if d = .rising then lane - 1 else lane + 7) = true) ∧
    (∀ g, entryHead b lane d = some g ↔
      (stands .body g ∧ ∀ q, stands .body q → gantryT b d g ≤ gantryT b d q) ∨
        ((∀ q, ¬ stands .body q) ∧ stands approach g ∧ ∀ q, stands approach q → gantryT b d q ≤ gantryT b d g)) ∧
    (∀ g, g ∈ downstreamHeads b lane d ↔ g ∈ faceHeads b lane d ∧ ∃ e, entryHead b lane d = some e ∧
      gantryT b d e < gantryT b d g) ∧
    ∀ g, g ∈ entryAndApproachHeads b lane d ↔ entryHead b lane d = some g ∨ stands approach g

/-- O29. Every command keeps the engine's result the derivation over the present inputs: in RUN and CONFIG the
obstructions are those of the lanes and spans, every head's intended aspect is the derived one, and the UNPROTECTED
flags follow: `Derived` (R43, R44, R45, R54, R58). Model's choices: logs 11, 35. -/
def Obligations.DerivedKept : Prop :=
  ∀ s t : State, PlanSound s → Derived s → step s = .next t → Derived t

/-- O30. Every command keeps the law of one direction: no lane has an intended ARROW or DIVERT on both faces (R58). -/
def Obligations.OneWayKept : Prop :=
  ∀ s t : State, OneWay s → step s = .next t → OneWay t

/-! ### The Head Table -/

/-- O31. The proof transitions on a reply with aspect data in RUN or CONFIG, state by state, and what a probe result
makes of a head there (R69, R71, R72, R73, R75, R78, R79). -/
def Obligations.ProofTransitions : Prop :=
  (∀ (b : Bore) (a : Aspect) (n : Nat) (h : HeadRecord),
    let q := proofTransition b a n h
    let within := a = h.intended.aspect ∧ n ≤ b.lampLimit
    let above := a = h.intended.aspect ∧ b.lampLimit < n
    let missed := a ≠ h.intended.aspect
    let goes := fun (p : Proof) (c : Nat) => q = { h with proof := p, counter := c }
    (h.proof = .unknown ∨ h.proof = .awaiting .unset →
      (within → goes .proven 0) ∧ (above → goes (.failed .lamp) 0) ∧
        (missed → h.counter + 1 = b.proofTimeout → goes (.failed .mismatch) 0) ∧
        (missed → h.counter + 1 ≠ b.proofTimeout → goes h.proof (h.counter + 1))) ∧
    (h.proof = .proven →
      (within → q = h) ∧ (above → goes (.failed .lamp) 0) ∧ (missed → goes (.awaiting .one) 1)) ∧
    (h.proof = .awaiting .one →
      (within → goes .proven 0) ∧ (above → goes (.failed .lamp) 0) ∧
        (missed → goes (.awaiting .two) (h.counter + 1))) ∧
    (h.proof = .awaiting .two →
      (within → goes .proven 0) ∧ (above → goes (.failed .lamp) 0) ∧ (missed → goes (.failed .mismatch) 0)) ∧
    (h.proof = .failed .lamp ∨ h.proof = .failed .mismatch ∨ h.proof = .failed (.probe true) →
      (within → h.counter + 1 = 25 → goes .proven 0) ∧
        (within → h.counter + 1 ≠ 25 → goes h.proof (h.counter + 1)) ∧
        (above → h.proof = .failed (.probe true) → goes h.proof 0) ∧
        (above → h.proof ≠ .failed (.probe true) → goes (.failed .lamp) 0) ∧ (missed → goes h.proof 0)) ∧
    (h.proof = .failed (.probe false) ∨ h.proof = .failed .node → q = h)) ∧
  ∀ h : HeadRecord,
    (h.proof ≠ .failed .node →
      applyProbe false h = { h with probe := .fail, proof := .failed (.probe false), counter := 0 }) ∧
    (h.proof = .failed .node → applyProbe false h = { h with probe := .fail }) ∧
    (h.proof = .failed (.probe false) →
      applyProbe true h = { h with probe := .pass, proof := .failed (.probe true), counter := 0 }) ∧
    (h.proof ≠ .failed (.probe false) → applyProbe true h = { h with probe := .pass })

/-- O32. A valid reply at the end of a GOOD or SUSPECT gantry's window in RUN or CONFIG: the node is GOOD with its
runs moved, the slot passes on, and each head records what the reply says and moves by R69 to R75, then by the
wrong-arrow rule and by its probe result, or is written anew by the engine, which a SUSPECT node's return to GOOD may
let write before the reply is taken; a FAULT reply reports UNKNOWN, a BUSY one takes PROVEN heads to AWAITING. Every
head's wrong-arrow run lies within its range, as `RunsInRange` has it (R68, R69, R70, R71, R72, R73, R74, R75, R78,
R79, R84, R143, R145). Model's choices: logs 3, 6, 13, 35. -/
def Obligations.GantryReplyTaken : Prop :=
  ∀ (s : State) (bore : Bore) (f : Frame) (g : Nat) (a b : Heard) (r : NodeRecord) (x : SlotReply),
    s.pins.resetLow = false → s.psc.part = .run ∨ s.psc.part = .config → s.image = some bore →
    s.chain.frame = some f → f.slot = g → f.cut = false → g ≤ bore.gantries.length → node? s g = some r → r.node = g →
    r.kind = .gantry → r.health = .good ∨ r.health = .suspect → windowOutcome .gantry g a b = .valid x →
    (∀ h ∈ s.heads, h.wrongRun ≤ 3) →
    let told := fun (h : HeadRecord) =>
      if x.status = .fault then faultReport h else reportFor (headReports (probingNow bore s g) x) h
    let moved := fun (h : HeadRecord) => proofTransition bore (told h).aspect (told h).strings h
    let wrong := fun (h : HeadRecord) => h.intended = .cross ∧ isArrow (told h).aspect = true ∧ h.wrongRun = 2
    let run := fun (h : HeadRecord) =>
      if h.intended = .cross ∧ isArrow (told h).aspect = true then min 3 (h.wrongRun + 1) else 0
    let proves := fun (h h' : HeadRecord) =>
      let p := if wrong h ∧ (moved h).proof.isFailed = false then (Proof.failed .mismatch, 0)
        else ((moved h).proof, (moved h).counter)
      h'.wrongRun = run h ∧
        ((told h).probe = none → h'.probe = h.probe ∧ (h'.proof, h'.counter) = p) ∧
        ((told h).probe = some false → h'.probe = .fail ∧
          (p.1 ≠ .failed .node → h'.proof = .failed (.probe false) ∧ h'.counter = 0)) ∧
        ((told h).probe = some true → h'.probe = .pass ∧
          (p.1 = .failed (.probe false) → h'.proof = .failed (.probe true) ∧ h'.counter = 0) ∧
          (p.1 ≠ .failed (.probe false) → (h'.proof, h'.counter) = p))
    let written := fun (h h' : HeadRecord) => h'.proof = .awaiting .unset ∧ h'.counter = 0 ∧ h'.wrongRun = 0 ∧
      h'.probe = (match (told h).probe with
        | none => h.probe
        | some true => .pass
        | some false => .fail)
    ∃ t, exec (.nodeReplyWindowEnd g a b) s = .next t ∧ GantryWindow g s t ∧
      t.chain.frame = some { f with slot := g + 1, command := nodeCommand bore t f.kind f.cycle (g + 1) } ∧
      (r.health = .suspect → g ≤ 68 → Recorded t (flagNode g)) ∧
      (x.status ≠ .busy → node? t g = some { r with
        health := .good, missRun := 0, dataRun := min 50 (r.dataRun + 1), busyRun := 0, lastStatus := some x.status
        answeredA := (slotReply .gantry g a).isSome, answeredB := (slotReply .gantry g b).isSome } ∧
        ∀ lane d h, head? s g lane d = some h → ∃ h', head? t g lane d = some h' ∧
          h'.reported = (told h).aspect ∧ h'.strings = (told h).strings ∧
          (∃ q, (q = h ∨ (r.health = .suspect ∧ q = { h with
            intended := q.intended, proof := .awaiting .unset, counter := 0, wrongRun := 0 })) ∧
            (proves q h' ∨ written q h')) ∧
          ((∀ c ∈ s.plan.contexts, c.isActive = false) →
            (∀ q ∈ s.heads, q.gantry = g → q.proof.isFailed = (takeReport bore (told q) q).proof.isFailed ∧ ¬ wrong q) →
            proves h h' ∧ h'.intended = h.intended)) ∧
      (x.status = .busy → r.busyRun < 249 → node? t g = some { r with
        health := .good, missRun := 0, dataRun := 0, busyRun := r.busyRun + 1, lastStatus := some .busy
        answeredA := (slotReply .gantry g a).isSome, answeredB := (slotReply .gantry g b).isSome } ∧
        ∀ lane d h, head? s g lane d = some h → ∃ h', head? t g lane d = some h' ∧
          h'.reported = h.reported ∧ h'.strings = h.strings ∧ h'.probe = h.probe ∧
          (h.proof = .proven → h'.proof = .awaiting .unset ∧ h'.counter = 0) ∧
          (h.proof ≠ .proven → (h'.proof = h.proof ∧ h'.counter = h.counter ∧ h'.wrongRun = h.wrongRun) ∨
            (h'.proof = .awaiting .unset ∧ h'.counter = 0 ∧ h'.wrongRun = 0)))

/-- O33. A proof timeout and a completed recovery run of a head at the end of its GOOD gantry's window:
FAILED(MISMATCH) or PROVEN, or AWAITING where the engine then writes it, recorded in GANTRIES; no other gantry's
report changes. A PROOF_TIMEOUT, RECOVERY_RUN_COMPLETE or WRONG_ARROW whose window brings the head no such consequence
changes nothing (R68, R71, R75, R79, R80, R84). Model's choices: logs 3, 6, 13, 35. -/
def Obligations.HeadWindowEvents : Prop :=
  ∀ (s : State) (bore : Bore) (f : Frame) (g lane : Nat) (d : Dir) (a b : Heard) (r : NodeRecord) (x : SlotReply)
    (h : HeadRecord), s.pins.resetLow = false → s.psc.part = .run ∨ s.psc.part = .config → s.image = some bore →
    s.chain.frame = some f → f.slot = g → g ≤ bore.gantries.length → node? s g = some r → r.node = g → r.kind = .gantry →
    r.health = .good → windowOutcome .gantry g a b = .valid x →
    x.status = .ready ∨ x.status = .fallback → head? s g lane d = some h →
    let rep := reportFor (headReports (probingNow bore s g) x) h
    rep.probe = none →
    let becomes := fun (p : Proof) (t : State) => GantryWindow g s t ∧
      (∃ h', head? t g lane d = some h' ∧ h'.reported = rep.aspect ∧ h'.strings = rep.strings ∧ h'.counter = 0 ∧
        (h'.proof = p ∨ h'.proof = .awaiting .unset)) ∧ (g ≤ 48 → Recorded t (flagGantry g))
    (h.proof = .unknown ∨ h.proof = .awaiting .unset → rep.aspect ≠ h.intended.aspect →
      h.counter + 1 = bore.proofTimeout →
      ∃ t, exec (.proofTimeout g lane d a b) s = .next t ∧ becomes (.failed .mismatch) t) ∧
    (h.proof = .failed .lamp ∨ h.proof = .failed .mismatch ∨ h.proof = .failed (.probe true) →
      rep.aspect = h.intended.aspect → rep.strings ≤ bore.lampLimit → h.counter + 1 = 25 →
      ∃ t, exec (.recoveryRunComplete g lane d a b) s = .next t ∧ becomes .proven t) ∧
    ((h.proof ≠ .unknown ∧ h.proof ≠ .awaiting .unset) ∨ rep.aspect = h.intended.aspect ∨
        h.counter + 1 ≠ bore.proofTimeout → exec (.proofTimeout g lane d a b) s = .next s) ∧
    ((h.proof ≠ .failed .lamp ∧ h.proof ≠ .failed .mismatch ∧ h.proof ≠ .failed (.probe true)) ∨
        rep.aspect ≠ h.intended.aspect ∨ bore.lampLimit < rep.strings ∨ h.counter + 1 ≠ 25 →
      exec (.recoveryRunComplete g lane d a b) s = .next s) ∧
    (isArrow rep.aspect = false ∨ h.intended ≠ .cross ∨ h.wrongRun < 2 ∨ h.wrongRun = 3 →
      exec (.wrongArrow g lane d a b) s = .next s)

/-- O34. A wrong arrow at the end of its GOOD gantry's window trips the lane where a head of the other face is
invited, closing it or ending its context, and trips nothing otherwise (R84, R109, R110, R174). Model's choices: logs
3, 6, 13, 14, 35, and that the trip comes before the reply's other head changes are handed on, so that the invitation is
judged as it stood before the reply and no advance on that reply completes the context first (log 44). -/
def Obligations.WrongArrowTrips : Prop :=
  ∀ (s : State) (bore : Bore) (f : Frame) (g lane : Nat) (d : Dir) (a b : Heard) (r : NodeRecord) (x : SlotReply)
    (h : HeadRecord) (lr : LaneRecord), PlanSound s → s.pins.resetLow = false →
    s.psc.part = .run ∨ s.psc.part = .config → s.image = some bore → s.chain.frame = some f →
    f.slot = g → g ≤ bore.gantries.length → node? s g = some r → r.node = g → r.kind = .gantry → r.health = .good →
    windowOutcome .gantry g a b = .valid x → x.status = .ready ∨ x.status = .fallback →
    head? s g lane d = some h → lane? s lane = some lr →
    let rep := reportFor (headReports (probingNow bore s g) x)
    isArrow (rep h).aspect = true → h.intended = .cross → h.wrongRun = 2 →
    s.heads.filter (fun q => decide (q.gantry = g) && becomesWrongArrow q (rep q).aspect) = [h] →
    ∃ t, exec (.wrongArrow g lane d a b) s = .next t ∧ GantryWindow g s t ∧
      (∃ h', head? t g lane d = some h' ∧ h'.reported = (rep h).aspect ∧
        (h.proof.isFailed = false → (rep h).probe = none →
          h'.proof = .failed .mismatch ∨ h'.proof = .awaiting .unset)) ∧
      (Invited s lane (otherDir d) →
        (∃ lr', lane? t lane = some lr' ∧ lr'.conflict = true ∧ lr'.phase = .closed ∧ lr'.direction = none ∧
          lr'.context = none) ∧ protectFail t = true ∧ (∀ q ∈ t.heads, q.lane = lane → q.intended = .cross) ∧
        ∀ k body, lr.context = some k → ctx? s k = some (.active body) →
          ctx? t k = some (.done { body with
            entries := body.entries.map (fun e => { e with held := false }), wait := .unset } .abortedConflict) ∧
          ∀ e ∈ body.entries, e.held = true → ∃ q, lane? t e.lane = some q ∧ q.phase = .closed ∧
            q.direction = none ∧ q.context = none ∧ q.overdue = false ∧ q.clearingTime = none ∧
            q.holdRunning = false) ∧
      (¬ Invited s lane (otherDir d) → IdleStand s t ∧
        ∃ lr', lane? t lane = some lr' ∧ (lr'.conflict = true → lr.conflict = true))

/-- O35. RESYNC, for every gantry, and RESEND, for one, discard the reports and proof of every head whose node is not
LOST; the heads of LOST nodes keep their proof, and RESEND of a LOST gantry changes nothing; RESEND of an absent gantry
is RANGE (R70, R81, R82). -/
def Obligations.ResyncResendDiscardProof : Prop :=
  ∀ (s : State) (l : Link),
    let discards := fun (sel : Nat → Bool) (s0 t : State) =>
      let gone := fun (h : HeadRecord) => sel h.gantry && !nodeLost s h.gantry
      RoadSame { s0 with heads := s.heads.map (fun h =>
        if gone h then { h with reported := .unknown, strings := 0, probe := .unset } else h) } t ∧
      t.heads.length = s.heads.length ∧
      ∀ (i : Nat) (h h' : HeadRecord), s.heads[i]? = some h → t.heads[i]? = some h' →
        (gone h = true → h'.counter = 0 ∧ h'.wrongRun = 0 ∧ (h'.proof = .unknown ∨ h'.proof = .awaiting .unset)) ∧
          (gone h = false → nodeLost s h.gantry = true → h'.proof = h.proof) ∧
          (gone h = false → (h'.proof = h.proof ∧ h'.counter = h.counter ∧ h'.wrongRun = h.wrongRun) ∨
            ((h'.proof = .awaiting .unset ∨ nodeLost s h.gantry = true) ∧ h'.counter = 0 ∧ h'.wrongRun = 0))
    (Admitted s l 0x2C → ∃ t, exec (.resync l []) s = .next t ∧
      discards (fun _ => true) (s.answered l 0x2C [] .ok [] .unset) t) ∧
    ∀ (b : Bore) (g : Byte), Admitted s l 0x2D → s.image = some b →
      (g.toNat = 0 ∨ b.gantries.length < g.toNat →
        exec (.resend l [g]) s = .next (s.answered l 0x2D [g] .range [] .unset)) ∧
      (1 ≤ g.toNat → g.toNat ≤ b.gantries.length → ∃ t, exec (.resend l [g]) s = .next t ∧
        discards (fun n => decide (n = g.toNat)) (s.answered l 0x2D [g] .ok [] .unset) t) ∧
      (1 ≤ g.toNat → g.toNat ≤ b.gantries.length → nodeLost s g.toNat = true →
        exec (.resend l [g]) s = .next (s.answered l 0x2D [g] .ok [] .unset))

/-- O36. Every command keeps the wrong-arrow run of every head and the runs and the disagreement count of every node
within their ranges: `RunsInRange` (R84, R144, R145). -/
def Obligations.RunsInRangeKept : Prop :=
  ∀ s t : State, RunsInRange s → step s = .next t → RunsInRange t

/-- O37. Every command keeps the head records those of the heads the image declares, each at its gantry, lane and face:
`HeadsPlaced` (R5, R43, R67). -/
def Obligations.HeadsPlacedKept : Prop :=
  ∀ s t : State, HeadsPlaced s → step s = .next t → HeadsPlaced t

/-! ### The gantry chain -/

/-- O38. Once the frame before it is over, a chain frame begins with the next cycle number modulo 64 and the kind the
part state gives, the header first and then node 1's command; the chain's records stand, and nothing begins while the
chain is silent or a frame is not over (R135, R136, R137, R138, R192). Model's choices: logs 5, 6, 7. -/
def Obligations.ChainFrameBegins : Prop :=
  ∀ (s : State) (b : Bore), s.image = some b →
    let ended := fun (f : Frame) => f.cut = false ∧ f.slot = b.gantries.length + b.stations.length + 1 ∧
      (s.chain.queue = [] ∨ (f.serviceBegun = true ∧ ∃ e rest, s.chain.queue = e :: rest ∧ e.inFlight = false))
    (polls s = false → exec .chainFrameStart s = .next s) ∧
    (∀ f, s.chain.frame = some f → ¬ ended f → exec .chainFrameStart s = .next s) ∧
    (polls s = true → (∀ f, s.chain.frame = some f → ended f) →
      ∃ t f, exec .chainFrameStart s = .next t ∧ t = { s with chain := t.chain } ∧
      t.chain.frame = some f ∧ f.cycle = s.chain.nextCycle ∧ f.slot = 1 ∧ f.serviceBegun = false ∧ f.cut = false ∧
      f.header = chainBlock [0xC3#8, byte f.cycle, match f.kind with
        | .hold => 1#8
        | .drive => 2#8
        | .closedown => 3#8] ∧
      f.command = nodeCommand b s f.kind f.cycle 1 ∧
      (s.psc.part = .run → f.kind = .drive) ∧ (s.psc.part = .config → f.kind = .closedown) ∧
      (s.psc.part = .startup → s.psc.startupKind = some .restarted → f.kind = .drive) ∧
      (s.psc.part = .startup → s.psc.startupKind = some .fresh → f.kind = .hold) ∧
      t.chain.nextCycle = (s.chain.nextCycle + 1) % 64 ∧ t.chain.untilNext = 20 ∧ t.chain.nodes = s.chain.nodes ∧
      t.chain.queue = s.chain.queue ∧ t.chain.resultA = s.chain.resultA ∧ t.chain.resultB = s.chain.resultB ∧
      (s.chain.frame = none → t.chain.lastEnded = s.chain.lastEnded) ∧
      ∀ f0, s.chain.frame = some f0 → t.chain.lastEnded = some f0.cycle)

/-- O39. The command to a gantry: its number, the probe flag of its schedule, and two head positions to a byte, DRIVE
carrying each intended aspect, CLOSEDOWN CROSS, HOLD DARK; a block's body is read back from it (R77, R135, R139, R140,
chapter 10). -/
def Obligations.GantryCommandCarriesIntended : Prop :=
  (∀ p : List Byte, chainBody (chainBlock p) = some p) ∧
  (∀ (b : Bore) (s : State) (kind : FrameKind) (cycle n : Nat), b.gantries.length < n →
    n ≤ b.gantries.length + b.stations.length → nodeCommand b s kind cycle n = chainBlock [byte n]) ∧
  ∀ (b : Bore) (s : State) (kind : FrameKind) (cycle n : Nat) (cfg : GantryCfg), from1 b.gantries n = some cfg →
    ∃ body : List Byte, nodeCommand b s kind cycle n = chainBlock body ∧ body.length = 8 ∧
      body[0]? = some (byte n) ∧
      body[1]? = some (if kind ≠ .hold ∧ cycle % 2 ^ cfg.probeK = cfg.probeO then 1#8 else 0#8) ∧
      ∀ lane d, 1 ≤ lane → lane ≤ 6 →
        let place := headPosition lane d
        let code := (body.getD (2 + place / 2) 0#8).toNat / (if place % 2 = 0 then 16 else 1) % 16
        (head? s n lane d = none → code = 0) ∧
        ∀ h, head? s n lane d = some h →
          (kind = .drive → code = codeAspect h.intended.aspect) ∧ (kind = .closedown → code = codeAspect .cross) ∧
            (kind = .hold → code = 0)

/-- O40. A window that ends with nothing valid moves the runs alone, of a node INTEGRATING in STARTUP too; at the third
such a GOOD node is SUSPECT, at the twenty-fifth a SUSPECT one LOST, its heads FAILED(NODE) or its crossing points
FAULTY. A section that so leaves CLEAR restarts the hold timer of its lane in CLEARING, with no passage, and returns a
lane in CLEARED to CLEARING; where none was CLEAR the timer stands. NODE_SUSPECT and NODE_LOST of a window without that
consequence change nothing. The last window of a STARTUP frame counts the frame as well (R24, R32, R33, R76, R93, R94,
R97, R143, R145, R148, R167, R168). Model's choices: logs 3, 6, 8, 12. -/
def Obligations.MissingReplies : Prop :=
  ∀ (s : State) (bore : Bore) (f : Frame) (n : Nat) (a b : Heard) (r : NodeRecord), s.pins.resetLow = false →
    s.psc.part ≠ .loading → s.psc.part ≠ .fault → s.image = some bore → s.chain.frame = some f → f.slot = n →
    f.cut = false → node? s n = some r → r.node = n → (windowOutcome r.kind n a b).isValid = false →
    let moved := fun (h : Health) => { r with
      health := h, missRun := min 25 (r.missRun + 1), dataRun := 0,
      disagreements := if windowOutcome r.kind n a b = .disagreement then min 255 (r.disagreements + 1)
        else r.disagreements,
      answeredA := (slotReply r.kind n a).isSome, answeredB := (slotReply r.kind n b).isSome }
    let passed := { s.chain with
      nodes := s.chain.nodes.set (n - 1) (moved r.health)
      frame := some { f with slot := n + 1, command := nodeCommand bore s f.kind f.cycle (n + 1) } }
    let last := s.psc.part = .startup ∧ n = bore.gantries.length + bore.stations.length
    (¬ last → r.health = .lost ∨ r.health = .integrating ∨ (r.health = .good ∧ r.missRun < 2) ∨
        (r.health = .suspect ∧ r.missRun < 24) →
      exec (.nodeReplyWindowEnd n a b) s = .next { s with chain := passed }) ∧
    (last → r.health = .integrating → s.psc.startupFrames < 249 →
      exec (.nodeReplyWindowEnd n a b) s = .next { s with
        psc := { s.psc with startupFrames := s.psc.startupFrames + 1 }, chain := passed }) ∧
    (¬ last → r.health = .good → r.missRun = 2 →
      ∃ t, exec (.nodeSuspect n a b) s = .next t ∧ node? t n = some (moved .suspect) ∧
        (n ≤ 68 → Recorded t (flagNode n)) ∧ (n ≤ bore.gantries.length → GantryWindow n s t)) ∧
    (¬ last → r.health = .suspect → r.missRun = 24 →
      ∃ t, exec (.nodeLost n a b) s = .next t ∧ node? t n = some (moved .lost) ∧
        (n ≤ 68 → Recorded t (flagNode n)) ∧
        (n ≤ bore.gantries.length → GantryWindow n s t ∧ ∀ h ∈ t.heads, h.gantry = n →
          h.proof = .failed .node ∧ h.reported = .unknown ∧ h.strings = 0 ∧ h.counter = 0 ∧ h.probe = .unset ∧
            h.wrongRun = 0) ∧
        (bore.gantries.length < n → ∀ lane c, crossing? s bore (n - bore.gantries.length - 1) lane = some c →
          c.faulty = false → ∃ c', crossing? t bore (n - bore.gantries.length - 1) lane = some c' ∧
            c'.faulty = true ∧ c'.phase = .idle ∧ c'.accepted = ⟨false, false⟩ ∧ c'.candidate = none ∧ c'.count = 0 ∧
            ∀ i y, i = n - bore.gantries.length - 1 ∨ i + 1 = n - bore.gantries.length - 1 →
              sectionAt? s bore lane i = some y →
              sectionAt? t bore lane i = some { y with state := .disturbed }) ∧
        (bore.gantries.length < n → PlanSound s → ∀ lane c lr,
          crossing? s bore (n - bore.gantries.length - 1) lane = some c → c.faulty = false → lane? s lane = some lr →
          let adjacent := fun (y : SectionRecord) => ∃ i, sectionAt? s bore lane i = some y ∧
            (i = n - bore.gantries.length - 1 ∨ i + 1 = n - bore.gantries.length - 1)
          (lr.phase = .clearing → s.plan.hold.active = true ∨ ¬ ClearingMet s bore lr → (∃ y, adjacent y ∧ y.state = .clear) →
            ∃ lr', lane? t lane = some lr' ∧ lr'.phase = .clearing ∧ lr'.direction = lr.direction ∧
              lr'.clearingTime = lr.clearingTime ∧ lr'.holdRunning = true ∧ lr'.holdRemaining = clearHold bore) ∧
          (lr.phase = .clearing → (∃ y, adjacent y) → (∀ y, adjacent y → y.state ≠ .clear) →
            ∃ lr', lane? t lane = some lr' ∧ lr'.phase = .clearing ∧ lr'.direction = lr.direction ∧
              lr'.clearingTime = lr.clearingTime ∧ lr'.holdRunning = lr.holdRunning ∧
              lr'.holdRemaining = lr.holdRemaining) ∧
          (lr.phase = .cleared → s.plan.hold.active = true ∨ (Examined s ∧ Derived s) →
            (∃ y, adjacent y ∧ y.state = .clear) →
            ∃ lr', lane? t lane = some lr' ∧ lr'.phase = .clearing ∧ lr'.direction = none ∧ lr'.clearingTime = some 0 ∧
              lr'.holdRunning = true ∧ lr'.holdRemaining = clearHold bore))) ∧
    (r.health ≠ .good ∨ r.missRun ≠ 2 → exec (.nodeSuspect n a b) s = .next s) ∧
    (r.health ≠ .suspect ∨ r.missRun < 24 → exec (.nodeLost n a b) s = .next s)

/-- O41. A LOST node is GOOD at its fiftieth data reply, its heads out of FAILED(NODE) or its crossing points
following their loops; a BUSY reply that leaves the busy run at 250 makes a node LOST with BUSY_EXPIRED set, whether
the run moved to 250 or stood there, and whether it was INTEGRATING in STARTUP, GOOD, SUSPECT or LOST. NODE_RECOVERED
and BUSY_EXPIRY of a valid window without that consequence change nothing (R24, R25, R76, R145, R147, R148, R167,
R197). Model's choices: logs 3, 6, 12, 23, 24, 36. -/
def Obligations.NodeRecoveryAndBusyExpiry : Prop :=
  ∀ (s : State) (bore : Bore) (f : Frame) (n : Nat) (a b : Heard) (r : NodeRecord) (x : SlotReply),
    s.pins.resetLow = false → s.psc.part ≠ .loading → s.psc.part ≠ .fault → s.image = some bore →
    (s.psc.part = .startup →
      bore.gantries.length < n ∨ n < bore.gantries.length + bore.stations.length ∨ f.cut = true) →
    s.chain.frame = some f → f.slot = n → node? s n = some r → r.node = n →
    r.kind = (if n ≤ bore.gantries.length then .gantry else .station) → windowOutcome r.kind n a b = .valid x →
    (r.health = .lost → r.dataRun = 49 → x.status ≠ .busy →
      ∃ t r', exec (.nodeRecovered n a b) s = .next t ∧ node? t n = some r' ∧ r'.health = .good ∧ r'.dataRun = 50 ∧
        r'.missRun = 0 ∧ r'.busyRun = 0 ∧ r'.lastStatus = some x.status ∧ r'.busyExpired = r.busyExpired ∧
        (n ≤ 68 → Recorded t (flagNode n)) ∧
        (n ≤ bore.gantries.length → GantryWindow n s t ∧ ∀ h ∈ t.heads, h.gantry = n →
          h.proof ≠ .failed .node ∧ (x.status ≠ .fault →
            h.reported = (reportFor (headReports (probingNow bore s n) x) h).aspect)) ∧
        (bore.gantries.length < n → ∀ lane c,
          crossing? t bore (n - bore.gantries.length - 1) lane = some c →
          c.loopFault = (loopReport x lane).fault ∧ c.faulty = c.loopFault)) ∧
    (249 ≤ r.busyRun → x.status = .busy →
      ∃ t r', exec (.busyExpiry n a b) s = .next t ∧ node? t n = some r' ∧ r'.health = .lost ∧
        r'.busyExpired = true ∧ r'.busyRun = 250 ∧ r'.missRun = 0 ∧ r'.dataRun = 0 ∧
        r'.lastStatus = some .busy ∧
        (n ≤ 68 → r.busyExpired = false ∨ r.health ≠ .lost → Recorded t (flagNode n)) ∧
        (n ≤ bore.gantries.length → GantryWindow n s t ∧
          (r.health ≠ .lost → ∀ h ∈ t.heads, h.gantry = n → h.proof = .failed .node ∧ h.reported = .unknown)) ∧
        (bore.gantries.length < n → r.health ≠ .lost → ∀ lane c,
          crossing? t bore (n - bore.gantries.length - 1) lane = some c → c.faulty = true)) ∧
    (r.health ≠ .lost ∨ r.dataRun < 49 ∨ x.status = .busy → exec (.nodeRecovered n a b) s = .next s) ∧
    (r.busyRun < 249 ∨ x.status ≠ .busy → exec (.busyExpiry n a b) s = .next s)

/-- O42. Every command keeps the Lane Plan Unit's records in agreement with one another: `PlanSound` (R15, R86, R87,
R88, R114, R115). -/
def Obligations.PlanSoundKept : Prop :=
  ∀ s t : State, PlanSound s → step s = .next t → PlanSound t

/-- O43. Every command keeps at most 8 transactions in the queue and at most the first in flight (R149, R151). -/
def Obligations.QueueBoundKept : Prop :=
  ∀ s t : State, QueueBound s → step s = .next t → QueueBound t

/-- O44. SERVICE queues at the tail or is refused RANGE or FULL; the service slot, after the last node's, sends a
QUEUED head entry; its window's end writes the result of the two channels to the origin's record and SERVICE group
alone, and a DONE PROBE_NOW gives each head of its gantry its probe result: a FAIL makes it FAILED(PROBE), a PASS
starts the recovery run of one that was (R78, R79, R149 to R153, R192). Model's choices: logs 6, 25, 35. -/
def Obligations.ServiceTransaction : Prop :=
  ∀ s : State,
    (∀ (l : Link) (n o : Byte), Admitted s l 0x2B →
      let refused := fun st => exec (.service l [n, o]) s = .next (s.answered l 0x2B [n, o] st [] .unset)
      (node? s n.toNat = none ∨ operationOf o.toNat = none → refused .range) ∧
      ∀ r op, node? s n.toNat = some r → operationOf o.toNat = some op →
        let fits := op = .identify ∨ op = .nodeReset ∨ ((op = .probeNow ∨ op = .lampDetail) ∧ r.kind = .gantry) ∨
          (op = .loopDetail ∧ r.kind = .station)
        (¬ fits → refused .range) ∧ (fits → 8 ≤ s.chain.queue.length → refused .full) ∧
        (fits → s.chain.queue.length < 8 → exec (.service l [n, o]) s =
          .next { s.answered l 0x2B [n, o] .ok [] .unset with
            chain := { s.chain with queue := s.chain.queue ++ [⟨l, n.toNat, op, false⟩] } })) ∧
    (∀ (f : Frame) (bore : Bore), polls s = true → s.image = some bore → s.chain.frame = some f →
      f.serviceBegun = false → f.cut = false → f.slot = bore.gantries.length + bore.stations.length + 1 →
      (s.chain.queue = [] → exec .serviceSlotStart s =
        .next { s with chain := { s.chain with frame := some { f with serviceBegun := true } } }) ∧
      ∀ e rest, s.chain.queue = e :: rest → e.inFlight = false → exec .serviceSlotStart s =
        .next { s with chain := { s.chain with
          frame := some { f with
            serviceBegun := true
            command := chainBlock [byte e.node, byte (codeOperation e.operation)] }
          queue := { e with inFlight := true } :: rest } }) ∧
    ∀ (bore : Bore) (f : Frame) (e : ServiceEntry) (rest : List ServiceEntry) (a b : Heard), polls s = true →
      s.image = some bore → s.chain.frame = some f → s.chain.queue = e :: rest → e.inFlight = true →
      f.serviceBegun = true →
      let hear := serviceReply (if e.node ≤ bore.gantries.length then .gantry else .station) e
      ∃ t res, exec (.serviceComplete a b) s = .next t ∧ t.chain = { s.chain with
          queue := rest
          resultA := if e.origin = .a then some res else s.chain.resultA
          resultB := if e.origin = .b then some res else s.chain.resultB } ∧
        (t.unit e.origin).vector.getLsbD flagService = true ∧
        res.node = e.node ∧ res.operation = e.operation ∧ res.cycle = f.cycle ∧
        (hear a = none → hear b = none → res.outcome = .noReply ∧ res.status = none ∧ res.data = []) ∧
        (∀ p, hear a = some p → (hear b = none ∨ a = b) →
          res.outcome = .done ∧ res.status = some p.status ∧ res.data = p.data) ∧
        (∀ p, hear b = some p → hear a = none →
          res.outcome = .done ∧ res.status = some p.status ∧ res.data = p.data) ∧
        (∀ p q, hear a = some p → hear b = some q → a ≠ b →
          res.outcome = .disagree ∧ res.status = none ∧ res.data = []) ∧
        (e.operation ≠ .probeNow →
          t = { s.setUnit e.origin ((s.unit e.origin).mark flagService) with chain := t.chain }) ∧
        (e.operation = .probeNow → RoadSame { s with
          chain := t.chain
          heads := s.heads.map (fun h =>
            if h.gantry = e.node ∧ res.outcome = .done ∧ (res.status = some .ready ∨ res.status = some .fallback) ∧
              nodeLost s e.node = false then
              { h with probe := match (res.data[headPosition h.lane h.face]?).map positionPass with
                | some true => .pass
                | some false => .fail
                | none => h.probe }
            else h) } t ∧
          ∀ (i : Nat) (h h' : HeadRecord) (p : Byte), s.heads[i]? = some h → t.heads[i]? = some h' →
            h.gantry = e.node → res.outcome = .done → res.status = some .ready ∨ res.status = some .fallback →
            nodeLost s e.node = false → res.data[headPosition h.lane h.face]? = some p →
            let became := fun (q : Proof) => s.psc.part = .run ∨ s.psc.part = .config →
              (h'.proof = q ∧ h'.counter = 0) ∨ (h'.proof = .awaiting .unset ∧ h'.counter = 0)
            (p.getLsbD 3 = true → h.proof ≠ .failed .node → became (.failed (.probe false))) ∧
            (p.getLsbD 3 = false → h.proof = .failed (.probe false) → became (.failed (.probe true))) ∧
            (p.getLsbD 3 = false → h.proof ≠ .failed (.probe false) →
              h'.proof = h.proof ∨ h'.proof = .awaiting .unset) ∧
            (s.psc.part = .startup → h'.proof = h.proof))

/-- O45. A node INTEGRATING in STARTUP is GOOD at the end of its window exactly where the window gives a data reply
and the one before did, and for a gantry both are no FAULT and report the same aspect at every head; a GOOD or SUSPECT
node is GOOD; a gantry's reply is recorded in its heads with no proof transition. The last node's window, which ends
the frame, is in `StartupEnds` (R69, R78, R145, R146, R167). Model's choices: logs 3, 6, 24. -/
def Obligations.NodesIntegrate : Prop :=
  ∀ (s : State) (bore : Bore) (f : Frame) (n : Nat) (a b : Heard) (r : NodeRecord) (x : SlotReply), PlanSound s →
    s.pins.resetLow = false → s.psc.part = .startup → s.image = some bore → s.chain.frame = some f → f.slot = n →
    n < bore.gantries.length + bore.stations.length → node? s n = some r → r.node = n →
    r.kind = (if n ≤ bore.gantries.length then .gantry else .station) → r.health ≠ .lost → r.busyRun < 249 →
    windowOutcome r.kind n a b = .valid x →
    let told := fun (h : HeadRecord) =>
      if x.status = .fault then faultReport h else reportFor (headReports (probingNow bore s n) x) h
    let integrates := x.status ≠ .busy ∧ 1 ≤ r.dataRun ∧
      (r.kind = .gantry → x.status ≠ .fault ∧ r.lastStatus ≠ some .fault ∧
        ∀ h ∈ s.heads, h.gantry = n → (told h).aspect = h.reported)
    ∃ t r', exec (.nodeReplyWindowEnd n a b) s = .next t ∧ node? t n = some r' ∧
      (r.health ≠ .integrating → r'.health = .good) ∧
      (r.health = .integrating → integrates → r'.health = .good ∧ (n ≤ 68 → Recorded t (flagNode n))) ∧
      (r.health = .integrating → ¬ integrates → r'.health = .integrating) ∧ r'.lastStatus = some x.status ∧ r'.missRun = 0 ∧
      r'.dataRun = (if x.status = .busy then 0 else min 50 (r.dataRun + 1)) ∧
      (n ≤ bore.gantries.length → GantryWindow n s t ∧
        ∀ lane d h, head? s n lane d = some h → ∃ h', head? t n lane d = some h' ∧ h'.intended = h.intended ∧
          (x.status ≠ .busy → h' = { h with
            reported := (told h).aspect
            strings := (told h).strings
            probe := match (told h).probe with
              | none => h.probe
              | some true => .pass
              | some false => .fail }))

/-- O46. The end of a STARTUP frame: RUN where no node is INTEGRATING, or at the count of 250 with the others LOST;
otherwise STARTUP goes on. A gantry so lost has its heads FAILED(NODE), a station its crossing points FAULTY. At entry
to RUN the hold's input origins are the SEQUENCE_HOLD inputs then active, the stop inputs are sampled into the overlays,
and after a FRESH STARTUP each lane is recovered OPEN or CLOSED by what its heads report, the tidal lanes CLOSED where
that pattern is illegal. STARTUP_TIMEOUT where the count does not run out changes nothing (R24, R76, R106, R107, R131,
R168, R169, R170). Model's choices: logs 3, 6, 8, 35. -/
def Obligations.StartupEnds : Prop :=
  ∀ (s : State) (bore : Bore) (f : Frame) (a b : Heard) (r : NodeRecord), PlanSound s → s.pins.resetLow = false →
    s.psc.part = .startup → s.image = some bore → s.chain.frame = some f → f.cut = false →
    let last := bore.gantries.length + bore.stations.length
    f.slot = last → node? s last = some r → r.node = last →
    let nodes := s.chain.nodes.set (last - 1) (nodeAfter s r a b)
    let gone := fun (g : Nat) => ∃ q ∈ nodes, q.node = g ∧ (q.health = .integrating ∨ q.health = .lost)
    let recoveredOpen := fun (q : LaneRecord) (x : Dir) => (∃ h ∈ s.heads, h.lane = q.lane ∧ h.face = x) ∧
      (∀ h ∈ s.heads, h.lane = q.lane → ¬ gone h.gantry ∧ (h.face = x → isArrow h.reported = true) ∧
        (h.face ≠ x → h.reported = .cross ∨ h.reported = .dark)) ∧
      (q.kind = .fixedRising → x = .rising) ∧ (q.kind = .fixedFalling → x = .falling)
    let recovered := fun (q : LaneRecord) (d : Option Dir) => ∀ x, d = some x ↔ recoveredOpen q x
    let entered := fun (t : State) => t.psc = { s.psc with part := .run, startupKind := none, startupFrames := 0 } ∧
      t.plan.inhibit = true ∧ t.plan.runClock = 0 ∧ t.plan.hold.linkA = s.plan.hold.linkA ∧
      t.plan.hold.linkB = s.plan.hold.linkB ∧ t.image = s.image ∧ Recorded t flagPart ∧
      t.chain.nodes = nodes.map (fun q => if q.health = .integrating then { q with health := .lost } else q) ∧
      (nodes.map (·.node) = (List.range nodes.length).map (· + 1) →
        ∀ q ∈ nodes, q.health = .integrating →
          (q.node ≤ bore.gantries.length → ∀ h ∈ t.heads, h.gantry = q.node →
            h.proof = .failed .node ∧ h.reported = .unknown) ∧
          (bore.gantries.length < q.node → ∀ lane c,
            crossing? t bore (q.node - bore.gantries.length - 1) lane = some c → c.faulty = true)) ∧
      (∀ j, j ∈ t.plan.hold.inputs ↔
        ∃ i, s.inputs[j]? = some i ∧ i.cfg.function = .sequenceHold ∧ i.active = true) ∧
      t.inputs = s.inputs ∧ t.store.spans = s.store.spans ∧
      (∀ target v, overlay? s target = some v → ∃ v', overlay? t target = some v' ∧ v'.linkA = v.linkA ∧
        v'.linkB = v.linkB) ∧
      (∀ (j : Nat) (i : InputRecord) (target : OverlayTarget), s.inputs[j]? = some i →
        stopTarget i.cfg.function = some target →
        (i.active = true → ∃ v, overlay? t target = some v ∧ ⟨j, true⟩ ∈ v.inputs) ∧
        (i.active = false → ∀ v, overlay? t target = some v → ∀ o ∈ v.inputs, o.input = j → o.active = false)) ∧
      (s.psc.startupKind = some .restarted → t.plan.lanes.map laneHanded = s.plan.lanes.map laneHanded) ∧
      (s.psc.startupKind = some .fresh → nodes.map (·.node) = (List.range nodes.length).map (· + 1) →
        bore.stations ≠ [] → ∀ pattern, PatternOf s recovered pattern → ∀ lane r' d, lane? s lane = some r' →
          pattern[lane - 1]? = some d →
          ∃ q, lane? t lane = some q ∧
            (Legal bore pattern ∨ r'.kind ≠ .tidal → ∀ x, d = some x →
              q.phase = .opened ∧ q.direction = some x ∧ q.context = none) ∧
            (d = none ∨ (¬ Legal bore pattern ∧ r'.kind = .tidal) → laneHanded q = laneHanded r'))
    ((∀ q ∈ nodes, q.health ≠ .integrating) → ∃ t, exec (.nodeReplyWindowEnd last a b) s = .next t ∧ entered t) ∧
    ((∃ q ∈ nodes, q.health = .integrating) → s.psc.startupFrames = 249 →
      ∃ t, exec (.startupTimeout a b) s = .next t ∧ entered t) ∧
    ((∃ q ∈ nodes, q.health = .integrating) → s.psc.startupFrames < 249 →
      ∃ t, exec (.nodeReplyWindowEnd last a b) s = .next t ∧
        t.psc = { s.psc with startupFrames := s.psc.startupFrames + 1 } ∧ t.chain.nodes = nodes) ∧
    ((∀ q ∈ nodes, q.health ≠ .integrating) ∨ s.psc.startupFrames ≠ 249 →
      exec (.startupTimeout a b) s = .next s)

/-! ### Counting and restores -/

/-- O47. An accepted pair moves the decoder as the table of R22 gives, an error taking it to IDLE; a pair that is not
accepted, reported too few times in a row or the accepted pair itself, becomes the candidate with its count and moves
nothing else (R21, R22). -/
def Obligations.DecoderTable : Prop :=
  ∀ (c : Crossing) (persistence : Nat) (pair : LoopPair),
    let count := if c.candidate = some pair then min persistence (c.count + 1) else 1
    (pair = c.accepted ∨ count ≠ persistence →
      acceptPair persistence pair c = ({ c with candidate := some pair, count := count }, .quiet)) ∧
    (pair ≠ c.accepted → count = persistence → ∃ phase event,
      (c.phase, pair.a, pair.b, phase, event) ∈
        [(Decode.idle, false, false, Decode.idle, DecodeEvent.quiet), (.idle, true, false, .r1, .quiet),
          (.idle, true, true, .idle, .error), (.idle, false, true, .f1, .quiet),
          (.r1, false, false, .idle, .quiet), (.r1, true, false, .r1, .quiet), (.r1, true, true, .r2, .quiet),
          (.r1, false, true, .idle, .error),
          (.r2, false, false, .idle, .error), (.r2, true, false, .idle, .error), (.r2, true, true, .r2, .quiet),
          (.r2, false, true, .r3, .quiet),
          (.r3, false, false, .idle, .risingPassage), (.r3, true, false, .idle, .error),
          (.r3, true, true, .r2, .risingPassage), (.r3, false, true, .r3, .quiet),
          (.f1, false, false, .idle, .quiet), (.f1, true, false, .idle, .error), (.f1, true, true, .f2, .quiet),
          (.f1, false, true, .f1, .quiet),
          (.f2, false, false, .idle, .error), (.f2, true, false, .f3, .quiet), (.f2, true, true, .f2, .quiet),
          (.f2, false, true, .idle, .error),
          (.f3, false, false, .idle, .fallingPassage), (.f3, true, false, .f3, .quiet),
          (.f3, true, true, .f2, .fallingPassage), (.f3, false, true, .idle, .error)] ∧
      acceptPair persistence pair c =
        ({ c with candidate := some pair, count := persistence, accepted := pair, phase := phase }, event))

/-- O48. The end of a station's window with loop data, in STARTUP, RUN or CONFIG and whatever the node's health: each
lane's loop fault is recorded, and where the crossing point is not FAULTY its pair is put to acceptance. While the
node stays LOST nothing but the loop faults is taken; where the reply makes it GOOD, a crossing point with no recorded
loop fault has left FAULTY first. The last window of a STARTUP that ends on its count is in `StartupEnds`. A rising
passage at (k, L) exits (L, k-1) and enters (L, k), a falling one the reverse, an error or a new fault disturbs both
and nothing else moves a section; on a passage or error, and on a new fault that takes a section from CLEAR, a lane
CLEARING restarts its hold timer and one CLEARED returns to CLEARING; a new fault beside no CLEAR section leaves the
timer as it was. An exit and an entry move occupancy and state by R28, R30, R31, R36, R38 (R20, R21, R23, R24, R25, R26,
R28, R30, R33, R36, R93, R94, R97, R148, R167). Model's choices: logs 6, 12, 36, 39, and that the snapshot of a return
to CLEARING is read after both section changes of a passage (log 42). -/
def Obligations.PassagesCounted : Prop :=
  (∀ (s : State) (bore : Bore) (f : Frame) (n : Nat) (a b : Heard) (r : NodeRecord) (x : SlotReply) (st : StationCfg),
    PlanSound s → s.pins.resetLow = false → s.psc.part ≠ .loading → s.psc.part ≠ .fault → s.image = some bore →
    (s.psc.part = .startup → n < bore.gantries.length + bore.stations.length ∨ f.cut = true ∨
      s.psc.startupFrames < 249) →
    s.chain.frame = some f → f.slot = n → node? s n = some r → r.node = n → r.kind = .station →
    bore.gantries.length < n → bore.stations[n - bore.gantries.length - 1]? = some st →
    r.health = .good ∨ FaultySound s →
    windowOutcome .station n a b = .valid x → x.status ≠ .busy →
    let k := n - bore.gantries.length - 1
    let fault := fun (lane : Nat) => (loopReport x lane).fault
    let staysLost := r.health = .lost ∧ r.dataRun < 49
    let idle := fun (c : Crossing) =>
      { c with phase := .idle, accepted := ⟨false, false⟩, candidate := none, count := 0, faulty := false }
    let before := fun (c : Crossing) => if r.health = .lost ∧ c.loopFault = false then idle c else c
    let judged := fun (lane : Nat) (c : Crossing) =>
      acceptPair st.persistence (loopReport x lane).pair
        { (if (before c).faulty = true then idle c else before c) with loopFault := false }
    ∃ t, exec (.nodeReplyWindowEnd n a b) s = .next t ∧
      (∀ lane c, crossing? s bore k lane = some c →
        let moves := fun (below above : SectionRecord → SectionRecord) =>
          (∀ i y, i + 1 = k → sectionAt? s bore lane i = some y → sectionAt? t bore lane i = some (below y)) ∧
            ∀ y, sectionAt? s bore lane k = some y → sectionAt? t bore lane k = some (above y)
        (staysLost → crossing? t bore k lane = some { c with loopFault := fault lane } ∧ moves id id) ∧
        (¬ staysLost → fault lane = true → (before c).faulty = true →
          crossing? t bore k lane = some { c with loopFault := true } ∧ moves id id) ∧
        (¬ staysLost → fault lane = true → (before c).faulty = false →
          crossing? t bore k lane = some { idle c with loopFault := true, faulty := true } ∧
          moves SectionRecord.disturb SectionRecord.disturb) ∧
        (¬ staysLost → fault lane = false → crossing? t bore k lane = some (judged lane c).1 ∧
          ((judged lane c).2 = .quiet → moves id id) ∧
          ((judged lane c).2 = .risingPassage → moves SectionRecord.exit SectionRecord.enter) ∧
          ((judged lane c).2 = .fallingPassage → moves SectionRecord.enter SectionRecord.exit) ∧
          ((judged lane c).2 = .error → moves SectionRecord.disturb SectionRecord.disturb))) ∧
      (∀ lane i, i ≠ k → i + 1 ≠ k → sectionAt? t bore lane i = sectionAt? s bore lane i) ∧
      (∀ j lane, j ≠ k → crossing? t bore j lane = crossing? s bore j lane) ∧
      t.count.crossings.length = s.count.crossings.length ∧ t.count.sections.length = s.count.sections.length ∧
      ∀ lane c lr, crossing? s bore k lane = some c → lane? s lane = some lr → ¬ staysLost →
        (∀ other q, other ≠ lane → crossing? s bore k other = some q → fault other = false ∧ (before q).faulty = false ∧
          (judged other q).2 = .quiet) →
        let adjacent := fun (y : SectionRecord) =>
          ∃ i, (i = k ∨ i + 1 = k) ∧ sectionAt? s bore lane i = some y
        let struck := (fault lane = false ∧ (judged lane c).2 ≠ .quiet) ∨
          (fault lane = true ∧ (before c).faulty = false ∧ ∃ y, adjacent y ∧ y.state = .clear)
        (fault lane = true → (before c).faulty = false → (∃ y, adjacent y) → (∀ y, adjacent y → y.state ≠ .clear) →
          lr.phase = .clearing → ∃ lr', lane? t lane = some lr' ∧ lr'.phase = .clearing ∧
            lr'.direction = lr.direction ∧ lr'.holdRunning = lr.holdRunning ∧ lr'.holdRemaining = lr.holdRemaining) ∧
        (struck → lr.phase = .clearing → ∃ lr', lane? t lane = some lr' ∧ lr'.phase = .clearing ∧
          lr'.direction = lr.direction ∧ lr'.holdRunning = true ∧ lr'.holdRemaining = clearHold bore) ∧
        (struck → lr.phase = .cleared → (∃ lr', lane? t lane = some lr' ∧ lr'.phase = .clearing ∧ lr'.direction = none ∧
          lr'.holdRunning = true ∧ lr'.holdRemaining = clearHold bore ∧ lr'.clearingTime = some 0) ∧
          ∀ j body, lr.context = some j → ctx? t j = some (.active body) → ∀ e ∈ body.entries, e.held = true →
            e.lane = lane → e.snapshot = some ((laneSections t bore lane).map (·.occupancy)))) ∧
  ∀ x : SectionRecord,
    (x.occupancy = 0 → x.exit = { x with state := .disturbed }) ∧
    (x.capacity ≤ x.occupancy → x.enter = { x with state := .disturbed }) ∧
    (0 < x.occupancy → x.exit = { x with
      occupancy := x.occupancy - 1
      state := if x.occupancy = 1 ∧ (x.state = .occupied ∨ x.state = .prepared true) then .clear else x.state }) ∧
    (x.occupancy < x.capacity → x.enter = { x with
      occupancy := x.occupancy + 1
      state := if x.state = .clear then .occupied
        else if x.state = .prepared false ∧ x.occupancy = 0 then .prepared true else x.state })

/-- O49. Every command keeps each crossing point FAULTY exactly while its recorded loop fault is set or its station's
node is LOST: `FaultySound` (R20, R24, R25). -/
def Obligations.FaultySoundKept : Prop :=
  ∀ s t : State, FaultySound s → step s = .next t → FaultySound t

/-- O50. Every command keeps every section's occupancy between 0 and its capacity, 0 where CLEAR and at least 1 where
OCCUPIED (R28, R30). -/
def Obligations.SectionsSoundKept : Prop :=
  ∀ s t : State, SectionsSound s → step s = .next t → SectionsSound t

/-- O51. RESTORE's refusals RANGE, STATE and FAULT_ACTIVE in order; RESTORE SWEEP makes the section PREPARED with
occupancy 0 and the sweep mark clear, whichever link sent it; RESTORE DIRECT makes it RESTORE_PENDING with requester
and window, and the window's end leaves it DISTURBED; each recorded in SECTIONS; a RESTORE_WINDOW_EXPIRY of a window
that has not reached 0, or of no window, changes nothing (R34, R35, R37). Model's choices: logs 4, 17, and that the window's first second begins with the window (log 30). -/
def Obligations.RestoreRefusalsAndModes : Prop :=
  (∀ (s : State) (b : Bore) (l : Link) (lane index : Byte) (x : SectionRecord), Admitted s l 0x29 →
    s.image = some b → sectionAt? s b lane.toNat index.toNat = some x → x.state = .disturbed →
    crossingFaulty s b index.toNat lane.toNat = false → crossingFaulty s b (index.toNat + 1) lane.toNat = false →
    let place := sectionPlace b lane.toNat index.toNat
    let swept := { x with occupancy := 0, state := .prepared false }
    ∃ t, exec (.restoreSweep l [lane, index, 1#8]) s = .next t ∧
      RoadSame { s.answered l 0x29 [lane, index, 1#8] .ok [] .unset with
        count := { s.count with sections := s.count.sections.set place swept } } t ∧
      sectionAt? t b lane.toNat index.toNat = some swept ∧
      IdleStand s t ∧ (lane.toNat ≤ 6 → Recorded t (flagSections lane.toNat))) ∧
  (∀ (s : State) (lane index : Nat),
    (∀ b x q m, s.image = some b → sectionAt? s b lane index = some x → x.state ≠ .restorePending q 0 m) →
    exec (.restoreWindowExpiry lane index) s = .next s) ∧
  ∀ (s : State) (b : Bore) (l : Link) (lane index mode : Byte), s.image = some b →
    let place := sectionPlace b lane.toNat index.toNat
    let fields := [lane, index, mode]
    (Admitted s l 0x29 →
      let refused := fun st => exec (.restoreSweep l fields) s = .next (s.answered l 0x29 fields st [] .unset) ∧
        exec (.restoreDirect l fields) s = .next (s.answered l 0x29 fields st [] .unset)
      (sectionAt? s b lane.toNat index.toNat = none ∨ (mode ≠ 1#8 ∧ mode ≠ 2#8) → refused .range) ∧
      ∀ x, sectionAt? s b lane.toNat index.toNat = some x → mode = 1#8 ∨ mode = 2#8 →
        (x.state ≠ .disturbed → refused .state) ∧
        (x.state = .disturbed →
          crossingFaulty s b index.toNat lane.toNat = true ∨ crossingFaulty s b (index.toNat + 1) lane.toNat = true →
          refused .faultActive) ∧
        (x.state = .disturbed → crossingFaulty s b index.toNat lane.toNat = false →
          crossingFaulty s b (index.toNat + 1) lane.toNat = false → mode = 2#8 →
          let waiting := { x with state := .restorePending l b.restoreWindow 0 }
          ∃ t, exec (.restoreDirect l fields) s = .next t ∧
            RoadSame { s.answered l 0x29 fields .ok [] .unset with
              count := { s.count with sections := s.count.sections.set place waiting } } t ∧
            IdleStand s t ∧ (lane.toNat ≤ 6 → Recorded t (flagSections lane.toNat)))) ∧
    ∀ x q m, sectionAt? s b lane.toNat index.toNat = some x → x.state = .restorePending q 0 m →
      let expired := { x with state := .disturbed }
      ∃ t, exec (.restoreWindowExpiry lane.toNat index.toNat) s = .next t ∧
        RoadSame { s with count := { s.count with sections := s.count.sections.set place expired } } t ∧
        IdleStand s t ∧ (lane.toNat ≤ 6 → Recorded t (flagSections lane.toNat))

/-- O52. CONFIRM_RESTORE: STATE outside RUN, LOCKED from a locked link, then RANGE, STATE and SAME_LINK in order, and
otherwise the section CLEAR with occupancy 0, recorded in SECTIONS (R39). -/
def Obligations.ConfirmRestoreClears : Prop :=
  ∀ (s : State) (b : Bore) (l : Link) (lane index : Byte), s.image = some b → Ready s l →
    let fields := [lane, index]
    let place := sectionPlace b lane.toNat index.toNat
    let refused := fun st => exec (.confirmRestore l fields) s = .next (s.answered l 0x2A fields st [] .unset)
    (s.psc.part ≠ .run → refused .state) ∧
    (s.psc.part = .run → locked s l = true → refused .locked) ∧
    (s.psc.part = .run → locked s l = false →
      (sectionAt? s b lane.toNat index.toNat = none → refused .range) ∧
      ∀ x, sectionAt? s b lane.toNat index.toNat = some x →
        ((∀ q w m, x.state ≠ .restorePending q w m) → refused .state) ∧
        (∀ w m, x.state = .restorePending l w m → refused .sameLink) ∧
        let emptied := { x with occupancy := 0, state := .clear }
        ∀ q w m, x.state = .restorePending q w m → q ≠ l →
          ∃ t, exec (.confirmRestore l fields) s = .next t ∧
            RoadSame { s.answered l 0x2A fields .ok [] .unset with
              count := { s.count with sections := s.count.sections.set place emptied } } t ∧
            sectionAt? t b lane.toNat index.toNat = some emptied ∧
            IdleStand s t ∧ (lane.toNat ≤ 6 → Recorded t (flagSections lane.toNat)))

/-! ### Spans, overlays and inputs -/

/-- O53. CLOSE_SPAN takes the lowest free record, or is RANGE or FULL; REOPEN_SPAN frees a record, or is RANGE or
NOT_FOUND; both are recorded in CLOSURES and move no lane outside the contexts (R117 to R120). -/
def Obligations.SpanRecords : Prop :=
  ∀ (s : State) (l : Link),
    (∀ lane h1 l1 h2 l2 : Byte, Admitted s l 0x25 →
      let fields := [lane, h1, l1, h2, l2]
      let fromC := h1.toNat * 256 + l1.toNat
      let toC := h2.toNat * 256 + l2.toNat
      let inRange := lane? s lane.toNat ≠ none ∧ toC ≤ 8000 ∧ fromC < toC
      let refused := fun st => exec (.closeSpan l fields) s = .next (s.answered l 0x25 fields st [] .unset)
      (¬ inRange → refused .range) ∧
      (inRange → (∀ k < s.store.spans.length, span? s k ≠ none) → refused .full) ∧
      ∀ k, inRange → k < s.store.spans.length → span? s k = none → (∀ j < k, span? s j ≠ none) →
        ∃ t, exec (.closeSpan l fields) s = .next t ∧
          RoadSame { s.answered l 0x25 fields .ok [byte k] .unset with
            store := { s.store with spans := s.store.spans.set k (some ⟨lane.toNat, fromC, toC, l⟩) } } t ∧
          IdleStand s t ∧ Recorded t flagClosures) ∧
    ∀ k : Byte, Admitted s l 0x26 →
      (11 < k.toNat → exec (.reopenSpan l [k]) s = .next (s.answered l 0x26 [k] .range [] .unset)) ∧
      (k.toNat ≤ 11 → span? s k.toNat = none →
        exec (.reopenSpan l [k]) s = .next (s.answered l 0x26 [k] .notFound [] .unset)) ∧
      ∀ sp, k.toNat ≤ 11 → span? s k.toNat = some sp →
        ∃ t, exec (.reopenSpan l [k]) s = .next t ∧
          RoadSame { s.answered l 0x26 [k] .ok [] .unset with
            store := { s.store with spans := s.store.spans.set k.toNat none } } t ∧
          IdleStand s t ∧ Recorded t flagClosures

/-- O54. RAISE_OVERLAY sets the inhibit and adds the link's origin, creating the overlay, whose heads are then CROSS;
RELEASE_OVERLAY removes it, or is NOT_FOUND or INPUT_ACTIVE; both are RANGE off the targets (R51, R52, R122, R123,
R125). -/
def Obligations.OverlayRequests : Prop :=
  ∀ (s : State) (l : Link) (b : Bore) (kind number : Byte), s.image = some b →
    let fields := [kind, number]
    let zone := kind = 1#8 ∧ 1 ≤ number.toNat ∧ number.toNat ≤ b.zones.length
    let portal := kind = 2#8 ∧ 1 ≤ number.toNat ∧ number.toNat ≤ 2
    let target := if kind = 1#8 then OverlayTarget.zone number.toNat else .portal number.toNat
    (Admitted s l 0x27 →
      (¬ zone → ¬ portal → exec (.raiseOverlay l fields) s = .next (s.answered l 0x27 fields .range [] .unset)) ∧
      (zone ∨ portal → ∃ t, exec (.raiseOverlay l fields) s = .next t ∧
        RoadSame { s.answered l 0x27 fields .ok [] .unset with
          plan := { s.plan with inhibit := true }, store := t.store } t ∧
        t.store.spans = s.store.spans ∧ IdleStand s t ∧ (s.plan.inhibit = false → Recorded t flagPart) ∧
        (∀ other, other ≠ target → overlay? t other = overlay? s other) ∧
        (∀ v, overlay? s target = some v → overlay? t target =
          some { v with linkA := v.linkA || decide (l = .a), linkB := v.linkB || decide (l = .b) }) ∧
        (overlay? s target = none →
          overlay? t target = some ⟨target, decide (l = .a), decide (l = .b), []⟩ ∧ Recorded t flagOverlays ∧
          (zone → ∀ cfg, from1 b.zones number.toNat = some cfg → ∀ h ∈ t.heads,
            gantryT b h.face h.gantry ≤ spanEnd h.face cfg.fromC cfg.toC → h.intended = .cross) ∧
          (portal → ∀ h ∈ t.heads, (h.face = .rising ↔ number = 1#8) →
            upToEntry b h.lane h.face (gantryT b h.face h.gantry) = true → h.intended = .cross)))) ∧
    (Admitted s l 0x28 →
      let refused := fun st => exec (.releaseOverlay l fields) s = .next (s.answered l 0x28 fields st [] .unset)
      (¬ zone → ¬ portal → refused .range) ∧
      (zone ∨ portal →
        (overlay? s target = none → refused .notFound) ∧
        ∀ v, overlay? s target = some v →
          ((∃ x ∈ v.inputs, x.active = true) → refused .inputActive) ∧
          ((∀ x ∈ v.inputs, x.active = false) → ∃ t, exec (.releaseOverlay l fields) s = .next t ∧
            RoadSame { s.answered l 0x28 fields .ok [] .unset with store := { s.store with
              overlays := s.store.overlays.filter (fun w => decide (w.target ≠ target)) } } t ∧
            IdleStand s t ∧ Recorded t flagOverlays)))

/-- O55. Every command keeps the inhibit set while any overlay is present (R107, R108, R122). -/
def Obligations.OverlayInhibitsKept : Prop :=
  ∀ s t : State, OverlayInhibits s → step s = .next t → OverlayInhibits t

/-- O56. A contact's movement puts its pending time to 0; a filtered level changed after its filter time is recorded
in INPUTS and handed on by function: a hold origin, an overlay raised, an origin marked inactive, or a lock. A
FILTERED_LEVEL_CHANGE while the contact stands at the filtered level, or before the filter time, changes nothing (R105,
R122, R124, R127, R128, R129). Model's choice: log 4. -/
def Obligations.ContactsAndFilters : Prop :=
  ∀ (s : State) (i : Nat),
    (∀ level : Contact,
      (s.pins.contacts[i]? = some level → exec (.einContactChange i level) s = .next s) ∧
      (s.pins.contacts[i]? ≠ some level → exec (.einContactChange i level) s = .next { s with
        pins := { s.pins with contacts := s.pins.contacts.set i level }
        inputs := s.inputs.mapIdx (fun j r => if j = i then { r with pending := 0 } else r) })) ∧
    ((∀ r, s.inputs[i]? = some r →
        atActiveLevel r.cfg.polarity (contactOf s i) = r.active ∨ r.pending < filterMs r.cfg.filter) →
      exec (.filteredLevelChange i) s = .next s) ∧
    ∀ r : InputRecord, s.pins.resetLow = false → s.inputs[i]? = some r →
      atActiveLevel r.cfg.polarity (contactOf s i) ≠ r.active → filterMs r.cfg.filter ≤ r.pending →
      let inputs := s.inputs.set i { r with active := !r.active, pending := 0 }
      ∃ t, exec (.filteredLevelChange i) s = .next t ∧ t.inputs = inputs ∧ (i < 16 → Recorded t (flagInput i)) ∧
        (r.cfg.function = .unrouted → t = { s with inputs := inputs }.report (flagInput i)) ∧
        (∀ l, r.cfg.function = .lockLink l →
          t = { s with inputs := inputs }.report (flagInput i) ∧ (r.active = false → locked t l = true)) ∧
        (r.cfg.function = .sequenceHold →
          RoadSame { s with inputs := inputs, plan := { s.plan with hold := t.plan.hold } } t ∧ IdleStand s t ∧
            t.plan.hold.linkA = s.plan.hold.linkA ∧ t.plan.hold.linkB = s.plan.hold.linkB ∧
            ∀ j, j ∈ t.plan.hold.inputs ↔ (j ∈ s.plan.hold.inputs ∧ j ≠ i) ∨ (j = i ∧ r.active = false)) ∧
        ∀ target, stopTarget r.cfg.function = some target →
          (r.active = false →
            RoadSame { s with inputs := inputs, plan := { s.plan with inhibit := true }, store := t.store } t ∧
              t.store.spans = s.store.spans ∧ IdleStand s t ∧
              (∀ other, other ≠ target → overlay? t other = overlay? s other) ∧
              ∃ v, overlay? t target = some v ∧ ⟨i, true⟩ ∈ v.inputs ∧
                (overlay? s target = none → v.linkA = false ∧ v.linkB = false ∧ v.inputs = [⟨i, true⟩]) ∧
                ∀ o, overlay? s target = some o → v.linkA = o.linkA ∧ v.linkB = o.linkB ∧
                  ∀ x ∈ o.inputs, x.input ≠ i → x ∈ v.inputs) ∧
          (r.active = true → t = { s with
              inputs := inputs, linkA := t.linkA, linkB := t.linkB
              store := { s.store with overlays := s.store.overlays.map (fun v =>
                if v.target = target then
                  { v with inputs := v.inputs.map (fun x => if x.input = i then ⟨i, false⟩ else x) }
                else v) } } ∧
            t.linkA.line = s.linkA.line ∧ t.linkB.line = s.linkB.line)

/-! ### Part control and loading -/

/-- O57. ENTER_CONFIG enters CONFIG with every lane CLOSED and no context ACTIVE, and is STATE otherwise; RELOAD and
RESTART are answered OK and change nothing before their reply is sent (R159, R160, R161, R171, R173). -/
def Obligations.ConfigReloadRestart : Prop :=
  ∀ (s : State) (l : Link),
    (Admitted s l 0x30 →
      let out := (∀ r ∈ s.plan.lanes, r.phase = .closed) ∧ ∀ c ∈ s.plan.contexts, c.isActive = false
      (¬ out → exec (.enterConfig l []) s = .next (s.answered l 0x30 [] .state [] .unset)) ∧
      (out → ∃ t, exec (.enterConfig l []) s = .next t ∧
        t = { s.answered l 0x30 [] .ok [] .unset with
          psc := ⟨.config, none, 0, s.psc.loadFault⟩ }.report flagPart ∧ cfgBus t = some ⟨.released, .released⟩)) ∧
    (Admitted s l 0x31 → exec (.reload l []) s = .next (s.answered l 0x31 [] .ok [] .reload)) ∧
    (Admitted s l 0x32 → exec (.restart l []) s = .next (s.answered l 0x32 [] .ok [] .restart))

/-- O58. The loader's attempts: one begins on an idle bus, sending the device address 0x3A to write, the memory
address and the device address to read; a bus not idle in 10 ms or a memory that does not acknowledge fails it;
another falls due 10 ms later; the fourth failure ends the load in FAULT with LOAD_NO_ACK; each of
these events out of its phase or before its 10 ms changes nothing (R159, R162). Model's
choices: logs 4, 37. -/
def Obligations.LoaderAttempts : Prop :=
  ∀ s : State, s.pins.resetLow = false → s.psc.part = .loading →
    let fails := fun (i : Instr) =>
      (s.loader.failed < 3 → exec i s = .next { s with loader :=
        { s.loader with phase := .waiting, failed := s.loader.failed + 1, waitMs := 0, bus := [] } }) ∧
      (s.loader.failed = 3 → exec i s = .next ({ s with
        loader := { s.loader with phase := .idle, failed := 0, waitMs := 0, bus := [] }
        psc := ⟨.fault, none, 0, ⟨.noAck, .unset, none⟩⟩ }.report flagPart))
    (s.loader.phase = .due →
      exec .cfgAttemptStart s = .next { s with loader := { s.loader with
        phase := .reading
        waitMs := 0
        bus := [.start, .send 0x74#8, .send 0#8, .send (if s.loader.transaction = .header then 0#8 else 16#8), .start,
          .send 0x75#8] } }) ∧
    (s.loader.phase = .due → 10 ≤ s.loader.waitMs → fails .cfgIdleTimeout) ∧
    (s.loader.phase = .reading → fails .memoryNotAcknowledged) ∧
    (s.loader.phase = .waiting → 10 ≤ s.loader.waitMs →
      exec .cfgRetryDue s = .next { s with loader := { s.loader with phase := .due, waitMs := 0 } }) ∧
    (s.loader.phase ≠ .due → exec .cfgAttemptStart s = .next s) ∧
    (s.loader.phase ≠ .due ∨ s.loader.waitMs < 10 → exec .cfgIdleTimeout s = .next s) ∧
    (s.loader.phase ≠ .reading → exec .memoryNotAcknowledged s = .next s) ∧
    (s.loader.phase ≠ .waiting ∨ s.loader.waitMs < 10 → exec .cfgRetryDue s = .next s)

/-- O59. The reads of a load, each data byte but the last acknowledged and a stop after it: the header makes the body
read due or is LOAD_FORMAT; the body is LOAD_CRC, or the first fault of the range, order and pattern passes, or is
accepted with every record formed, a head record for every declared head in head order, and STARTUP FRESH entered (R5,
R67, R159, R162, R163, R164, R166). Model's choices: logs 20, 21, 29. -/
def Obligations.LoaderReads : Prop :=
  ∀ (s : State) (bytes : List Byte), s.pins.resetLow = false → s.psc.part = .loading →
    s.loader.phase = .reading →
    let bus := s.loader.bus ++ bytes.mapIdx (fun i x => BusEvent.read x (decide (i + 1 < bytes.length))) ++ [.stop]
    let fault := fun (f : LoadFault) => .next ({ s with
      loader := { s.loader with phase := .idle, failed := 0, waitMs := 0, bus := bus }
      psc := ⟨.fault, none, 0, f⟩ }.report flagPart)
    (s.loader.transaction = .header → bytes.length = 16 →
      let length := (bytes.getD 6 0#8).toNat * 256 + (bytes.getD 7 0#8).toNat
      let good := bytes.take 6 = [0x54#8, 0x46#8, 0x34#8, 0x38#8, 0#8, 1#8] ∧ 17 ≤ length ∧ length ≤ 8192
      (good → exec (.headerReadComplete bytes) s = .next { s with
        loader := ⟨.body, .due, 0, 0, length, (bytes.getD 8 0#8) ++ (bytes.getD 9 0#8) ++ (bytes.getD 10 0#8) ++
          (bytes.getD 11 0#8), bus⟩ }) ∧
      (¬ good → exec (.headerReadComplete bytes) s = fault ⟨.format, .unset, none⟩)) ∧
    (s.loader.transaction = .body → bytes.length + 16 = s.loader.totalLength →
      (crc32 bytes ≠ s.loader.crc → exec (.bodyReadComplete bytes) s = fault ⟨.crc, .unset, none⟩) ∧
      (crc32 bytes = s.loader.crc →
        (∀ f, rangePass bytes = .error f → exec (.bodyReadComplete bytes) s = fault f) ∧
        ∀ b, rangePass bytes = .ok b →
          (∀ f, orderPass b = .error f → exec (.bodyReadComplete bytes) s = fault f) ∧
          (orderPass b = .ok () → ¬ Legal b (b.lanes.map (fun c => ownDir c.kind)) →
            exec (.bodyReadComplete bytes) s = fault ⟨.pattern, .lanes, none⟩) ∧
          (orderPass b = .ok () → Legal b (b.lanes.map (fun c => ownDir c.kind)) →
            ∃ t, exec (.bodyReadComplete bytes) s = .next t ∧ t.image = some b ∧
              t.psc = ⟨.startup, some .fresh, 0, s.psc.loadFault⟩ ∧ Recorded t flagPart ∧
              t.plan.contexts = List.replicate 6 Ctx.free ∧ t.plan.pointer = 0 ∧ t.plan.inhibit = true ∧
              t.plan.hold.active = false ∧ t.plan.lanes.length = b.lanes.length ∧
              (∀ r ∈ t.plan.lanes, r.phase = .closed ∧ r.direction = none ∧ r.context = none) ∧
              t.count.crossings.length = b.stations.length * b.lanes.length ∧
              (∀ c ∈ t.count.crossings, c.phase = .idle ∧ c.faulty = false) ∧
              t.count.sections.length = b.lanes.length * (b.stations.length - 1) ∧
              (∀ x ∈ t.count.sections, x.state = .disturbed ∧ x.occupancy = 0 ∧
                x.capacity = (x.toC - x.fromC) / b.pitch) ∧
              (∀ h ∈ t.heads, h.intended = .cross ∧ h.proof = .unknown ∧ h.reported = .unknown) ∧
              (∀ g lane d, (∃ h ∈ t.heads, h.gantry = g ∧ h.lane = lane ∧ h.face = d) ↔
                ∃ cfg, from1 b.gantries g = some cfg ∧ 1 ≤ lane ∧ lane ≤ 6 ∧
                  cfg.presence.getLsbD (if d = .rising then lane - 1 else lane + 7) = true) ∧
              t.heads.Pairwise (fun x y => x.gantry < y.gantry ∨ (x.gantry = y.gantry ∧ (x.lane < y.lane ∨
                (x.lane = y.lane ∧ x.face = .rising ∧ y.face = .falling)))) ∧
              t.obstructions = [] ∧ t.store = ⟨List.replicate 12 none, []⟩ ∧
              t.inputs.map (·.cfg) = b.inputs ∧ (∀ r ∈ t.inputs, r.active = false) ∧
              t.chain.nodes.length = b.gantries.length + b.stations.length ∧
              (∀ r ∈ t.chain.nodes, r.health = .integrating) ∧ t.chain.queue = [] ∧ t.chain.nextCycle = 0 ∧
              t.chain.lastEnded = none ∧ t.chain.resultA = none ∧ t.chain.resultB = none)))

/-- O60. What the range and order passes say of a bore: a body passes the range pass exactly where it holds the tables
the counts lay out and nothing more, with every value in its range and every code in its set, and the bore is those
values; the order pass names the first gantry out of order, or else the first station (R2, R3, R4, R5, R8, R9, R10,
R11, R77, R126, R164, R195). Model's choices: logs 20, 21. -/
def Obligations.AcceptedImageMeans : Prop :=
  (∀ (body : List Byte) (b : Bore),
    let at1 := fun (i : Nat) => (body.getD i 0#8).toNat
    let at2 := fun (i : Nat) => at1 i * 256 + at1 (i + 1)
    let gantryAt := 14 + 2 * at1 0
    let stationAt := gantryAt + 1 + 7 * at1 gantryAt
    let zoneAt := stationAt + 1 + 3 * at1 stationAt
    let inputAt := zoneAt + 1 + 4 * at1 zoneAt
    rangePass body = .ok b ↔
      (body.length = inputAt + 64 ∧ b.lanes.length = at1 0 ∧ b.gantries.length = at1 gantryAt ∧
        b.stations.length = at1 stationAt ∧ b.zones.length = at1 zoneAt ∧ b.inputs.length = 16 ∧
        2 ≤ at1 0 ∧ at1 0 ≤ 6 ∧ 1 ≤ at1 gantryAt ∧ at1 gantryAt ≤ 48 ∧ 2 ≤ at1 stationAt ∧ at1 stationAt ≤ 20 ∧
        1 ≤ at1 zoneAt ∧ at1 zoneAt ≤ 8 ∧ 1 ≤ (b.lanes.filter (fun c => decide (c.kind = .tidal))).length ∧
        (b.lanes.filter (fun c => decide (c.kind = .tidal))).length ≤ 4) ∧
      ((at1 1, b.risingSide) ∈ [(0, .lo), (1, .hi)] ∧ (at1 2, b.bufferRequired) ∈ [(0, false), (1, true)] ∧
        b.leadIn = at2 3 ∧ at2 3 ≤ 1000 ∧ b.pitch = at1 5 ∧ 4 ≤ at1 5 ∧ at1 5 ≤ 10 ∧ b.crawl = at1 6 ∧ 5 ≤ at1 6 ∧
        at1 6 ≤ 60 ∧ b.minHold = at1 7 ∧ 5 ≤ at1 7 ∧ at1 7 ≤ 120 ∧ b.clearingTimeout = at2 8 ∧ 60 ≤ at2 8 ∧
        at2 8 ≤ 3600 ∧ b.restoreWindow = at2 10 ∧ 10 ≤ at2 10 ∧ at2 10 ≤ 300 ∧ b.proofTimeout = at1 12 ∧
        5 ≤ at1 12 ∧ at1 12 ≤ 50 ∧ b.lampLimit = at1 13 ∧ at1 13 ≤ 15) ∧
      (∀ i c, b.lanes[i]? = some c →
        (at1 (14 + 2 * i), c.kind) ∈ [(0, .fixedRising), (1, .fixedFalling), (2, .tidal)] ∧
        (at1 (14 + 2 * i + 1), c.escape) ∈ [(0, .lo), (1, .hi)]) ∧
      (∀ i c, b.gantries[i]? = some c → let p := gantryAt + 1 + 7 * i
        c.chainage = at2 p ∧ at2 p ≤ 8000 ∧
        (at1 (p + 2), c.role) ∈ [(0, .approach1), (1, .body), (2, .approach2)] ∧ c.presence.toNat = at2 (p + 3) ∧
        (∀ j < 16, c.presence.getLsbD j = true → if j < 8 then j < at1 0 ∧ c.role ≠ .approach2
          else j - 8 < at1 0 ∧ c.role ≠ .approach1) ∧
        c.probeK = at1 (p + 5) ∧ at1 (p + 5) ≤ 6 ∧ c.probeO = at1 (p + 6) ∧ at1 (p + 6) < 2 ^ at1 (p + 5)) ∧
      (∀ i c, b.stations[i]? = some c → let p := stationAt + 1 + 3 * i
        c.chainage = at2 p ∧ at2 p ≤ 8000 ∧ c.persistence = at1 (p + 2) ∧ 1 ≤ at1 (p + 2) ∧ at1 (p + 2) ≤ 3) ∧
      (∀ i c, b.zones[i]? = some c → let p := zoneAt + 1 + 4 * i
        c.fromC = at2 p ∧ c.toC = at2 (p + 2) ∧ at2 p < at2 (p + 2) ∧ at2 (p + 2) ≤ 8000) ∧
      ∀ i c, b.inputs[i]? = some c → let p := inputAt + 4 * i
        (match c.function with
          | .unrouted => at1 p = 0 ∧ at1 (p + 1) = 0
          | .zoneStop z => at1 p = 1 ∧ at1 (p + 1) = z ∧ 1 ≤ z ∧ z ≤ at1 zoneAt
          | .portalStop q => at1 p = 2 ∧ at1 (p + 1) = q ∧ 1 ≤ q ∧ q ≤ 2
          | .sequenceHold => at1 p = 3 ∧ at1 (p + 1) = 0
          | .lockLink .a => at1 p = 4 ∧ at1 (p + 1) = 0
          | .lockLink .b => at1 p = 5 ∧ at1 (p + 1) = 0) ∧
        (at1 (p + 2), c.polarity) ∈ [(0, .activeOpen), (1, .activeClosed)] ∧
        (at1 (p + 3), c.filter) ∈ [(0, .ms10), (1, .ms50), (2, .ms200), (3, .ms1000)]) ∧
  (∀ (body : List Byte) (f : LoadFault), rangePass body = .error f → f.code = .range) ∧
  (∀ (b : Bore) (f : LoadFault), orderPass b = .error f ↔
    let badGantry := fun (i : Nat) => ∃ c, b.gantries[i]? = some c ∧ ∃ j < i, ∃ e, b.gantries[j]? = some e ∧
      (c.chainage ≤ e.chainage ∨ (c.role = .approach1 ∧ e.role = .body) ∨ (c.role = .body ∧ e.role = .approach2))
    let badStation := fun (k : Nat) => 1 ≤ k ∧ k < b.stations.length ∧
      ¬ (stationC b (k - 1) + 20 ≤ stationC b k ∧ stationC b k ≤ stationC b (k - 1) + 2000)
    (∃ i, badGantry i ∧ (∀ j < i, ¬ badGantry j) ∧ f = ⟨.order, .gantries, some (i + 1)⟩) ∨
      ((∀ i, ¬ badGantry i) ∧ ∃ k, badStation k ∧ (∀ j < k, ¬ badStation j) ∧
        f = ⟨.order, .stations, some k⟩)) ∧
  ∀ b : Bore, orderPass b = .ok () ↔
    (b.gantries.map (·.chainage)).Pairwise (· < ·) ∧
      (b.gantries.map (·.role)).Pairwise (fun x y =>
        ¬ (x = .body ∧ y = .approach1) ∧ ¬ (x = .approach2 ∧ y = .body)) ∧
      ∀ k, k + 1 < b.stations.length →
        stationC b k + 20 ≤ stationC b (k + 1) ∧ stationC b (k + 1) ≤ stationC b k + 2000
end

