-- ==== Sys2Proof/Laws/State.lean ====
section
/-! SUPPORT. One lemma per field and named update of the state: what the update leaves as it is, and what it writes. -/

namespace Sys2Proof.Machine

open Sys2Proof

/-! ### Link Units -/

@[simp] theorem State.unit_setUnit (s : State) (l : Link) (u : LinkUnit) : (s.setUnit l u).unit l = u := by
  cases l <;> rfl
@[simp] theorem State.unit_setUnit_other (s : State) (l : Link) (u : LinkUnit) :
    (s.setUnit l u).unit (otherLink l) = s.unit (otherLink l) := by cases l <;> rfl
@[simp] theorem State.setUnit_setUnit (s : State) (l : Link) (u v : LinkUnit) :
    (s.setUnit l u).setUnit l v = s.setUnit l v := by cases l <;> rfl
@[simp] theorem LinkUnit.mark_rx (u : LinkUnit) (i : Nat) : (u.mark i).rx = u.rx := rfl
@[simp] theorem LinkUnit.mark_serving (u : LinkUnit) (i : Nat) : (u.mark i).serving = u.serving := rfl
@[simp] theorem LinkUnit.mark_leaving (u : LinkUnit) (i : Nat) : (u.mark i).leaving = u.leaving := rfl
@[simp] theorem LinkUnit.mark_exchange (u : LinkUnit) (i : Nat) : (u.mark i).exchange = u.exchange := rfl
@[simp] theorem LinkUnit.mark_overrun (u : LinkUnit) (i : Nat) : (u.mark i).overrun = u.overrun := rfl
@[simp] theorem State.unit_report (s : State) (i : Nat) (l : Link) : (s.report i).unit l = (s.unit l).mark i := by
  cases l <;> rfl

@[simp] theorem State.setUnit_pending (s : State) (l : Link) (u : LinkUnit) : (s.setUnit l u).pending = s.pending := by cases l <;> rfl
@[simp] theorem State.setUnit_pins (s : State) (l : Link) (u : LinkUnit) : (s.setUnit l u).pins = s.pins := by cases l <;> rfl
@[simp] theorem State.setUnit_psc (s : State) (l : Link) (u : LinkUnit) : (s.setUnit l u).psc = s.psc := by cases l <;> rfl
@[simp] theorem State.setUnit_loader (s : State) (l : Link) (u : LinkUnit) : (s.setUnit l u).loader = s.loader := by cases l <;> rfl
@[simp] theorem State.setUnit_image (s : State) (l : Link) (u : LinkUnit) : (s.setUnit l u).image = s.image := by cases l <;> rfl
@[simp] theorem State.setUnit_plan (s : State) (l : Link) (u : LinkUnit) : (s.setUnit l u).plan = s.plan := by cases l <;> rfl
@[simp] theorem State.setUnit_count (s : State) (l : Link) (u : LinkUnit) : (s.setUnit l u).count = s.count := by cases l <;> rfl
@[simp] theorem State.setUnit_obstructions (s : State) (l : Link) (u : LinkUnit) : (s.setUnit l u).obstructions = s.obstructions := by cases l <;> rfl
@[simp] theorem State.setUnit_heads (s : State) (l : Link) (u : LinkUnit) : (s.setUnit l u).heads = s.heads := by cases l <;> rfl
@[simp] theorem State.setUnit_store (s : State) (l : Link) (u : LinkUnit) : (s.setUnit l u).store = s.store := by cases l <;> rfl
@[simp] theorem State.setUnit_inputs (s : State) (l : Link) (u : LinkUnit) : (s.setUnit l u).inputs = s.inputs := by cases l <;> rfl
@[simp] theorem State.setUnit_chain (s : State) (l : Link) (u : LinkUnit) : (s.setUnit l u).chain = s.chain := by cases l <;> rfl

@[simp] theorem State.report_pending (s : State) (i : Nat) : (s.report i).pending = s.pending := by rfl
@[simp] theorem State.report_pins (s : State) (i : Nat) : (s.report i).pins = s.pins := by rfl
@[simp] theorem State.report_psc (s : State) (i : Nat) : (s.report i).psc = s.psc := by rfl
@[simp] theorem State.report_loader (s : State) (i : Nat) : (s.report i).loader = s.loader := by rfl
@[simp] theorem State.report_image (s : State) (i : Nat) : (s.report i).image = s.image := by rfl
@[simp] theorem State.report_plan (s : State) (i : Nat) : (s.report i).plan = s.plan := by rfl
@[simp] theorem State.report_count (s : State) (i : Nat) : (s.report i).count = s.count := by rfl
@[simp] theorem State.report_obstructions (s : State) (i : Nat) : (s.report i).obstructions = s.obstructions := by rfl
@[simp] theorem State.report_heads (s : State) (i : Nat) : (s.report i).heads = s.heads := by rfl
@[simp] theorem State.report_store (s : State) (i : Nat) : (s.report i).store = s.store := by rfl
@[simp] theorem State.report_inputs (s : State) (i : Nat) : (s.report i).inputs = s.inputs := by rfl
@[simp] theorem State.report_chain (s : State) (i : Nat) : (s.report i).chain = s.chain := by rfl

@[simp] theorem State.reportIf_pending (s : State) (c : Bool) (i : Nat) : (s.reportIf c i).pending = s.pending := by cases c <;> rfl
@[simp] theorem State.reportIf_pins (s : State) (c : Bool) (i : Nat) : (s.reportIf c i).pins = s.pins := by cases c <;> rfl
@[simp] theorem State.reportIf_psc (s : State) (c : Bool) (i : Nat) : (s.reportIf c i).psc = s.psc := by cases c <;> rfl
@[simp] theorem State.reportIf_loader (s : State) (c : Bool) (i : Nat) : (s.reportIf c i).loader = s.loader := by cases c <;> rfl
@[simp] theorem State.reportIf_image (s : State) (c : Bool) (i : Nat) : (s.reportIf c i).image = s.image := by cases c <;> rfl
@[simp] theorem State.reportIf_plan (s : State) (c : Bool) (i : Nat) : (s.reportIf c i).plan = s.plan := by cases c <;> rfl
@[simp] theorem State.reportIf_count (s : State) (c : Bool) (i : Nat) : (s.reportIf c i).count = s.count := by cases c <;> rfl
@[simp] theorem State.reportIf_obstructions (s : State) (c : Bool) (i : Nat) : (s.reportIf c i).obstructions = s.obstructions := by cases c <;> rfl
@[simp] theorem State.reportIf_heads (s : State) (c : Bool) (i : Nat) : (s.reportIf c i).heads = s.heads := by cases c <;> rfl
@[simp] theorem State.reportIf_store (s : State) (c : Bool) (i : Nat) : (s.reportIf c i).store = s.store := by cases c <;> rfl
@[simp] theorem State.reportIf_inputs (s : State) (c : Bool) (i : Nat) : (s.reportIf c i).inputs = s.inputs := by cases c <;> rfl
@[simp] theorem State.reportIf_chain (s : State) (c : Bool) (i : Nat) : (s.reportIf c i).chain = s.chain := by cases c <;> rfl

@[simp] theorem State.reportAll_nil (s : State) : s.reportAll [] = s := rfl
@[simp] theorem State.reportAll_cons (s : State) (i : Nat) (is : List Nat) :
    s.reportAll (i :: is) = (s.report i).reportAll is := rfl

@[simp] theorem State.reportAll_pending (s : State) (is : List Nat) : (s.reportAll is).pending = s.pending := by
  induction is generalizing s with
  | nil => rfl
  | cons i is ih => simp [ih]
@[simp] theorem State.reportAll_pins (s : State) (is : List Nat) : (s.reportAll is).pins = s.pins := by
  induction is generalizing s with
  | nil => rfl
  | cons i is ih => simp [ih]
@[simp] theorem State.reportAll_psc (s : State) (is : List Nat) : (s.reportAll is).psc = s.psc := by
  induction is generalizing s with
  | nil => rfl
  | cons i is ih => simp [ih]
@[simp] theorem State.reportAll_loader (s : State) (is : List Nat) : (s.reportAll is).loader = s.loader := by
  induction is generalizing s with
  | nil => rfl
  | cons i is ih => simp [ih]
@[simp] theorem State.reportAll_image (s : State) (is : List Nat) : (s.reportAll is).image = s.image := by
  induction is generalizing s with
  | nil => rfl
  | cons i is ih => simp [ih]
@[simp] theorem State.reportAll_plan (s : State) (is : List Nat) : (s.reportAll is).plan = s.plan := by
  induction is generalizing s with
  | nil => rfl
  | cons i is ih => simp [ih]
@[simp] theorem State.reportAll_count (s : State) (is : List Nat) : (s.reportAll is).count = s.count := by
  induction is generalizing s with
  | nil => rfl
  | cons i is ih => simp [ih]
@[simp] theorem State.reportAll_obstructions (s : State) (is : List Nat) : (s.reportAll is).obstructions = s.obstructions := by
  induction is generalizing s with
  | nil => rfl
  | cons i is ih => simp [ih]
@[simp] theorem State.reportAll_heads (s : State) (is : List Nat) : (s.reportAll is).heads = s.heads := by
  induction is generalizing s with
  | nil => rfl
  | cons i is ih => simp [ih]
@[simp] theorem State.reportAll_store (s : State) (is : List Nat) : (s.reportAll is).store = s.store := by
  induction is generalizing s with
  | nil => rfl
  | cons i is ih => simp [ih]
@[simp] theorem State.reportAll_inputs (s : State) (is : List Nat) : (s.reportAll is).inputs = s.inputs := by
  induction is generalizing s with
  | nil => rfl
  | cons i is ih => simp [ih]
@[simp] theorem State.reportAll_chain (s : State) (is : List Nat) : (s.reportAll is).chain = s.chain := by
  induction is generalizing s with
  | nil => rfl
  | cons i is ih => simp [ih]

/-! ### Records -/

@[simp] theorem setPart_pending (p : PartState) (s : State) : (setPart p s).pending = s.pending := by simp [setPart]
@[simp] theorem setPart_pins (p : PartState) (s : State) : (setPart p s).pins = s.pins := by simp [setPart]
@[simp] theorem setPart_loader (p : PartState) (s : State) : (setPart p s).loader = s.loader := by simp [setPart]
@[simp] theorem setPart_image (p : PartState) (s : State) : (setPart p s).image = s.image := by simp [setPart]
@[simp] theorem setPart_plan (p : PartState) (s : State) : (setPart p s).plan = s.plan := by simp [setPart]
@[simp] theorem setPart_count (p : PartState) (s : State) : (setPart p s).count = s.count := by simp [setPart]
@[simp] theorem setPart_obstructions (p : PartState) (s : State) : (setPart p s).obstructions = s.obstructions := by simp [setPart]
@[simp] theorem setPart_heads (p : PartState) (s : State) : (setPart p s).heads = s.heads := by simp [setPart]
@[simp] theorem setPart_store (p : PartState) (s : State) : (setPart p s).store = s.store := by simp [setPart]
@[simp] theorem setPart_inputs (p : PartState) (s : State) : (setPart p s).inputs = s.inputs := by simp [setPart]
@[simp] theorem setPart_chain (p : PartState) (s : State) : (setPart p s).chain = s.chain := by simp [setPart]

@[simp] theorem modifyLane_pending (k : Nat) (f : LaneRecord → LaneRecord) (s : State) : (modifyLane k f s).pending = s.pending := by unfold modifyLane; split <;> simp
@[simp] theorem modifyLane_pins (k : Nat) (f : LaneRecord → LaneRecord) (s : State) : (modifyLane k f s).pins = s.pins := by unfold modifyLane; split <;> simp
@[simp] theorem modifyLane_psc (k : Nat) (f : LaneRecord → LaneRecord) (s : State) : (modifyLane k f s).psc = s.psc := by unfold modifyLane; split <;> simp
@[simp] theorem modifyLane_loader (k : Nat) (f : LaneRecord → LaneRecord) (s : State) : (modifyLane k f s).loader = s.loader := by unfold modifyLane; split <;> simp
@[simp] theorem modifyLane_image (k : Nat) (f : LaneRecord → LaneRecord) (s : State) : (modifyLane k f s).image = s.image := by unfold modifyLane; split <;> simp
@[simp] theorem modifyLane_count (k : Nat) (f : LaneRecord → LaneRecord) (s : State) : (modifyLane k f s).count = s.count := by unfold modifyLane; split <;> simp
@[simp] theorem modifyLane_obstructions (k : Nat) (f : LaneRecord → LaneRecord) (s : State) : (modifyLane k f s).obstructions = s.obstructions := by unfold modifyLane; split <;> simp
@[simp] theorem modifyLane_heads (k : Nat) (f : LaneRecord → LaneRecord) (s : State) : (modifyLane k f s).heads = s.heads := by unfold modifyLane; split <;> simp
@[simp] theorem modifyLane_store (k : Nat) (f : LaneRecord → LaneRecord) (s : State) : (modifyLane k f s).store = s.store := by unfold modifyLane; split <;> simp
@[simp] theorem modifyLane_inputs (k : Nat) (f : LaneRecord → LaneRecord) (s : State) : (modifyLane k f s).inputs = s.inputs := by unfold modifyLane; split <;> simp
@[simp] theorem modifyLane_chain (k : Nat) (f : LaneRecord → LaneRecord) (s : State) : (modifyLane k f s).chain = s.chain := by unfold modifyLane; split <;> simp

@[simp] theorem putCtx_pending (k : Nat) (c : Ctx) (s : State) : (putCtx k c s).pending = s.pending := by simp [putCtx]
@[simp] theorem putCtx_pins (k : Nat) (c : Ctx) (s : State) : (putCtx k c s).pins = s.pins := by simp [putCtx]
@[simp] theorem putCtx_psc (k : Nat) (c : Ctx) (s : State) : (putCtx k c s).psc = s.psc := by simp [putCtx]
@[simp] theorem putCtx_loader (k : Nat) (c : Ctx) (s : State) : (putCtx k c s).loader = s.loader := by simp [putCtx]
@[simp] theorem putCtx_image (k : Nat) (c : Ctx) (s : State) : (putCtx k c s).image = s.image := by simp [putCtx]
@[simp] theorem putCtx_count (k : Nat) (c : Ctx) (s : State) : (putCtx k c s).count = s.count := by simp [putCtx]
@[simp] theorem putCtx_obstructions (k : Nat) (c : Ctx) (s : State) : (putCtx k c s).obstructions = s.obstructions := by simp [putCtx]
@[simp] theorem putCtx_heads (k : Nat) (c : Ctx) (s : State) : (putCtx k c s).heads = s.heads := by simp [putCtx]
@[simp] theorem putCtx_store (k : Nat) (c : Ctx) (s : State) : (putCtx k c s).store = s.store := by simp [putCtx]
@[simp] theorem putCtx_inputs (k : Nat) (c : Ctx) (s : State) : (putCtx k c s).inputs = s.inputs := by simp [putCtx]
@[simp] theorem putCtx_chain (k : Nat) (c : Ctx) (s : State) : (putCtx k c s).chain = s.chain := by simp [putCtx]

@[simp] theorem modifyActive_pending (k : Nat) (f : CtxBody → CtxBody) (s : State) : (modifyActive k f s).pending = s.pending := by unfold modifyActive; split <;> simp
@[simp] theorem modifyActive_pins (k : Nat) (f : CtxBody → CtxBody) (s : State) : (modifyActive k f s).pins = s.pins := by unfold modifyActive; split <;> simp
@[simp] theorem modifyActive_psc (k : Nat) (f : CtxBody → CtxBody) (s : State) : (modifyActive k f s).psc = s.psc := by unfold modifyActive; split <;> simp
@[simp] theorem modifyActive_loader (k : Nat) (f : CtxBody → CtxBody) (s : State) : (modifyActive k f s).loader = s.loader := by unfold modifyActive; split <;> simp
@[simp] theorem modifyActive_image (k : Nat) (f : CtxBody → CtxBody) (s : State) : (modifyActive k f s).image = s.image := by unfold modifyActive; split <;> simp
@[simp] theorem modifyActive_count (k : Nat) (f : CtxBody → CtxBody) (s : State) : (modifyActive k f s).count = s.count := by unfold modifyActive; split <;> simp
@[simp] theorem modifyActive_obstructions (k : Nat) (f : CtxBody → CtxBody) (s : State) : (modifyActive k f s).obstructions = s.obstructions := by unfold modifyActive; split <;> simp
@[simp] theorem modifyActive_heads (k : Nat) (f : CtxBody → CtxBody) (s : State) : (modifyActive k f s).heads = s.heads := by unfold modifyActive; split <;> simp
@[simp] theorem modifyActive_store (k : Nat) (f : CtxBody → CtxBody) (s : State) : (modifyActive k f s).store = s.store := by unfold modifyActive; split <;> simp
@[simp] theorem modifyActive_inputs (k : Nat) (f : CtxBody → CtxBody) (s : State) : (modifyActive k f s).inputs = s.inputs := by unfold modifyActive; split <;> simp
@[simp] theorem modifyActive_chain (k : Nat) (f : CtxBody → CtxBody) (s : State) : (modifyActive k f s).chain = s.chain := by unfold modifyActive; split <;> simp

@[simp] theorem setInhibit_pending (v : Bool) (s : State) : (setInhibit v s).pending = s.pending := by simp [setInhibit]
@[simp] theorem setInhibit_pins (v : Bool) (s : State) : (setInhibit v s).pins = s.pins := by simp [setInhibit]
@[simp] theorem setInhibit_psc (v : Bool) (s : State) : (setInhibit v s).psc = s.psc := by simp [setInhibit]
@[simp] theorem setInhibit_loader (v : Bool) (s : State) : (setInhibit v s).loader = s.loader := by simp [setInhibit]
@[simp] theorem setInhibit_image (v : Bool) (s : State) : (setInhibit v s).image = s.image := by simp [setInhibit]
@[simp] theorem setInhibit_count (v : Bool) (s : State) : (setInhibit v s).count = s.count := by simp [setInhibit]
@[simp] theorem setInhibit_obstructions (v : Bool) (s : State) : (setInhibit v s).obstructions = s.obstructions := by simp [setInhibit]
@[simp] theorem setInhibit_heads (v : Bool) (s : State) : (setInhibit v s).heads = s.heads := by simp [setInhibit]
@[simp] theorem setInhibit_store (v : Bool) (s : State) : (setInhibit v s).store = s.store := by simp [setInhibit]
@[simp] theorem setInhibit_inputs (v : Bool) (s : State) : (setInhibit v s).inputs = s.inputs := by simp [setInhibit]
@[simp] theorem setInhibit_chain (v : Bool) (s : State) : (setInhibit v s).chain = s.chain := by simp [setInhibit]

@[simp] theorem setHold_pending (h : HoldSet) (s : State) : (setHold h s).pending = s.pending := by simp [setHold]
@[simp] theorem setHold_pins (h : HoldSet) (s : State) : (setHold h s).pins = s.pins := by simp [setHold]
@[simp] theorem setHold_psc (h : HoldSet) (s : State) : (setHold h s).psc = s.psc := by simp [setHold]
@[simp] theorem setHold_loader (h : HoldSet) (s : State) : (setHold h s).loader = s.loader := by simp [setHold]
@[simp] theorem setHold_image (h : HoldSet) (s : State) : (setHold h s).image = s.image := by simp [setHold]
@[simp] theorem setHold_count (h : HoldSet) (s : State) : (setHold h s).count = s.count := by simp [setHold]
@[simp] theorem setHold_obstructions (h : HoldSet) (s : State) : (setHold h s).obstructions = s.obstructions := by simp [setHold]
@[simp] theorem setHold_heads (h : HoldSet) (s : State) : (setHold h s).heads = s.heads := by simp [setHold]
@[simp] theorem setHold_store (h : HoldSet) (s : State) : (setHold h s).store = s.store := by simp [setHold]
@[simp] theorem setHold_inputs (h : HoldSet) (s : State) : (setHold h s).inputs = s.inputs := by simp [setHold]
@[simp] theorem setHold_chain (h : HoldSet) (s : State) : (setHold h s).chain = s.chain := by simp [setHold]

@[simp] theorem modifySection_pending (b : Bore) (lane k : Nat) (f : SectionRecord → SectionRecord) (s : State) : (modifySection b lane k f s).pending = s.pending := by unfold modifySection; split <;> simp
@[simp] theorem modifySection_pins (b : Bore) (lane k : Nat) (f : SectionRecord → SectionRecord) (s : State) : (modifySection b lane k f s).pins = s.pins := by unfold modifySection; split <;> simp
@[simp] theorem modifySection_psc (b : Bore) (lane k : Nat) (f : SectionRecord → SectionRecord) (s : State) : (modifySection b lane k f s).psc = s.psc := by unfold modifySection; split <;> simp
@[simp] theorem modifySection_loader (b : Bore) (lane k : Nat) (f : SectionRecord → SectionRecord) (s : State) : (modifySection b lane k f s).loader = s.loader := by unfold modifySection; split <;> simp
@[simp] theorem modifySection_image (b : Bore) (lane k : Nat) (f : SectionRecord → SectionRecord) (s : State) : (modifySection b lane k f s).image = s.image := by unfold modifySection; split <;> simp
@[simp] theorem modifySection_plan (b : Bore) (lane k : Nat) (f : SectionRecord → SectionRecord) (s : State) : (modifySection b lane k f s).plan = s.plan := by unfold modifySection; split <;> simp
@[simp] theorem modifySection_obstructions (b : Bore) (lane k : Nat) (f : SectionRecord → SectionRecord) (s : State) : (modifySection b lane k f s).obstructions = s.obstructions := by unfold modifySection; split <;> simp
@[simp] theorem modifySection_heads (b : Bore) (lane k : Nat) (f : SectionRecord → SectionRecord) (s : State) : (modifySection b lane k f s).heads = s.heads := by unfold modifySection; split <;> simp
@[simp] theorem modifySection_store (b : Bore) (lane k : Nat) (f : SectionRecord → SectionRecord) (s : State) : (modifySection b lane k f s).store = s.store := by unfold modifySection; split <;> simp
@[simp] theorem modifySection_inputs (b : Bore) (lane k : Nat) (f : SectionRecord → SectionRecord) (s : State) : (modifySection b lane k f s).inputs = s.inputs := by unfold modifySection; split <;> simp
@[simp] theorem modifySection_chain (b : Bore) (lane k : Nat) (f : SectionRecord → SectionRecord) (s : State) : (modifySection b lane k f s).chain = s.chain := by unfold modifySection; split <;> simp

@[simp] theorem putCrossing_pending (b : Bore) (k lane : Nat) (c : Crossing) (s : State) : (putCrossing b k lane c s).pending = s.pending := by rfl
@[simp] theorem putCrossing_pins (b : Bore) (k lane : Nat) (c : Crossing) (s : State) : (putCrossing b k lane c s).pins = s.pins := by rfl
@[simp] theorem putCrossing_psc (b : Bore) (k lane : Nat) (c : Crossing) (s : State) : (putCrossing b k lane c s).psc = s.psc := by rfl
@[simp] theorem putCrossing_loader (b : Bore) (k lane : Nat) (c : Crossing) (s : State) : (putCrossing b k lane c s).loader = s.loader := by rfl
@[simp] theorem putCrossing_image (b : Bore) (k lane : Nat) (c : Crossing) (s : State) : (putCrossing b k lane c s).image = s.image := by rfl
@[simp] theorem putCrossing_linkA (b : Bore) (k lane : Nat) (c : Crossing) (s : State) : (putCrossing b k lane c s).linkA = s.linkA := by rfl
@[simp] theorem putCrossing_linkB (b : Bore) (k lane : Nat) (c : Crossing) (s : State) : (putCrossing b k lane c s).linkB = s.linkB := by rfl
@[simp] theorem putCrossing_plan (b : Bore) (k lane : Nat) (c : Crossing) (s : State) : (putCrossing b k lane c s).plan = s.plan := by rfl
@[simp] theorem putCrossing_obstructions (b : Bore) (k lane : Nat) (c : Crossing) (s : State) : (putCrossing b k lane c s).obstructions = s.obstructions := by rfl
@[simp] theorem putCrossing_heads (b : Bore) (k lane : Nat) (c : Crossing) (s : State) : (putCrossing b k lane c s).heads = s.heads := by rfl
@[simp] theorem putCrossing_store (b : Bore) (k lane : Nat) (c : Crossing) (s : State) : (putCrossing b k lane c s).store = s.store := by rfl
@[simp] theorem putCrossing_inputs (b : Bore) (k lane : Nat) (c : Crossing) (s : State) : (putCrossing b k lane c s).inputs = s.inputs := by rfl
@[simp] theorem putCrossing_chain (b : Bore) (k lane : Nat) (c : Crossing) (s : State) : (putCrossing b k lane c s).chain = s.chain := by rfl

@[simp] theorem modifyHeads_pending (f : HeadRecord → HeadRecord) (s : State) : (modifyHeads f s).pending = s.pending := by simp [modifyHeads]
@[simp] theorem modifyHeads_pins (f : HeadRecord → HeadRecord) (s : State) : (modifyHeads f s).pins = s.pins := by simp [modifyHeads]
@[simp] theorem modifyHeads_psc (f : HeadRecord → HeadRecord) (s : State) : (modifyHeads f s).psc = s.psc := by simp [modifyHeads]
@[simp] theorem modifyHeads_loader (f : HeadRecord → HeadRecord) (s : State) : (modifyHeads f s).loader = s.loader := by simp [modifyHeads]
@[simp] theorem modifyHeads_image (f : HeadRecord → HeadRecord) (s : State) : (modifyHeads f s).image = s.image := by simp [modifyHeads]
@[simp] theorem modifyHeads_plan (f : HeadRecord → HeadRecord) (s : State) : (modifyHeads f s).plan = s.plan := by simp [modifyHeads]
@[simp] theorem modifyHeads_count (f : HeadRecord → HeadRecord) (s : State) : (modifyHeads f s).count = s.count := by simp [modifyHeads]
@[simp] theorem modifyHeads_obstructions (f : HeadRecord → HeadRecord) (s : State) : (modifyHeads f s).obstructions = s.obstructions := by simp [modifyHeads]
@[simp] theorem modifyHeads_store (f : HeadRecord → HeadRecord) (s : State) : (modifyHeads f s).store = s.store := by simp [modifyHeads]
@[simp] theorem modifyHeads_inputs (f : HeadRecord → HeadRecord) (s : State) : (modifyHeads f s).inputs = s.inputs := by simp [modifyHeads]
@[simp] theorem modifyHeads_chain (f : HeadRecord → HeadRecord) (s : State) : (modifyHeads f s).chain = s.chain := by simp [modifyHeads]

@[simp] theorem putNode_pending (n : Nat) (r : NodeRecord) (s : State) : (putNode n r s).pending = s.pending := by unfold putNode; split <;> simp
@[simp] theorem putNode_pins (n : Nat) (r : NodeRecord) (s : State) : (putNode n r s).pins = s.pins := by unfold putNode; split <;> simp
@[simp] theorem putNode_psc (n : Nat) (r : NodeRecord) (s : State) : (putNode n r s).psc = s.psc := by unfold putNode; split <;> simp
@[simp] theorem putNode_loader (n : Nat) (r : NodeRecord) (s : State) : (putNode n r s).loader = s.loader := by unfold putNode; split <;> simp
@[simp] theorem putNode_image (n : Nat) (r : NodeRecord) (s : State) : (putNode n r s).image = s.image := by unfold putNode; split <;> simp
@[simp] theorem putNode_plan (n : Nat) (r : NodeRecord) (s : State) : (putNode n r s).plan = s.plan := by unfold putNode; split <;> simp
@[simp] theorem putNode_count (n : Nat) (r : NodeRecord) (s : State) : (putNode n r s).count = s.count := by unfold putNode; split <;> simp
@[simp] theorem putNode_obstructions (n : Nat) (r : NodeRecord) (s : State) : (putNode n r s).obstructions = s.obstructions := by unfold putNode; split <;> simp
@[simp] theorem putNode_heads (n : Nat) (r : NodeRecord) (s : State) : (putNode n r s).heads = s.heads := by unfold putNode; split <;> simp
@[simp] theorem putNode_store (n : Nat) (r : NodeRecord) (s : State) : (putNode n r s).store = s.store := by unfold putNode; split <;> simp
@[simp] theorem putNode_inputs (n : Nat) (r : NodeRecord) (s : State) : (putNode n r s).inputs = s.inputs := by unfold putNode; split <;> simp

@[simp] theorem setOverlays_pending (os : List Overlay) (s : State) : (setOverlays os s).pending = s.pending := by simp [setOverlays]
@[simp] theorem setOverlays_pins (os : List Overlay) (s : State) : (setOverlays os s).pins = s.pins := by simp [setOverlays]
@[simp] theorem setOverlays_psc (os : List Overlay) (s : State) : (setOverlays os s).psc = s.psc := by simp [setOverlays]
@[simp] theorem setOverlays_loader (os : List Overlay) (s : State) : (setOverlays os s).loader = s.loader := by simp [setOverlays]
@[simp] theorem setOverlays_image (os : List Overlay) (s : State) : (setOverlays os s).image = s.image := by simp [setOverlays]
@[simp] theorem setOverlays_plan (os : List Overlay) (s : State) : (setOverlays os s).plan = s.plan := by simp [setOverlays]
@[simp] theorem setOverlays_count (os : List Overlay) (s : State) : (setOverlays os s).count = s.count := by simp [setOverlays]
@[simp] theorem setOverlays_obstructions (os : List Overlay) (s : State) : (setOverlays os s).obstructions = s.obstructions := by simp [setOverlays]
@[simp] theorem setOverlays_heads (os : List Overlay) (s : State) : (setOverlays os s).heads = s.heads := by simp [setOverlays]
@[simp] theorem setOverlays_inputs (os : List Overlay) (s : State) : (setOverlays os s).inputs = s.inputs := by simp [setOverlays]
@[simp] theorem setOverlays_chain (os : List Overlay) (s : State) : (setOverlays os s).chain = s.chain := by simp [setOverlays]

@[simp] theorem setSpan_pending (k : Nat) (sp : Option Span) (s : State) : (setSpan k sp s).pending = s.pending := by simp [setSpan]
@[simp] theorem setSpan_pins (k : Nat) (sp : Option Span) (s : State) : (setSpan k sp s).pins = s.pins := by simp [setSpan]
@[simp] theorem setSpan_psc (k : Nat) (sp : Option Span) (s : State) : (setSpan k sp s).psc = s.psc := by simp [setSpan]
@[simp] theorem setSpan_loader (k : Nat) (sp : Option Span) (s : State) : (setSpan k sp s).loader = s.loader := by simp [setSpan]
@[simp] theorem setSpan_image (k : Nat) (sp : Option Span) (s : State) : (setSpan k sp s).image = s.image := by simp [setSpan]
@[simp] theorem setSpan_plan (k : Nat) (sp : Option Span) (s : State) : (setSpan k sp s).plan = s.plan := by simp [setSpan]
@[simp] theorem setSpan_count (k : Nat) (sp : Option Span) (s : State) : (setSpan k sp s).count = s.count := by simp [setSpan]
@[simp] theorem setSpan_obstructions (k : Nat) (sp : Option Span) (s : State) : (setSpan k sp s).obstructions = s.obstructions := by simp [setSpan]
@[simp] theorem setSpan_heads (k : Nat) (sp : Option Span) (s : State) : (setSpan k sp s).heads = s.heads := by simp [setSpan]
@[simp] theorem setSpan_inputs (k : Nat) (sp : Option Span) (s : State) : (setSpan k sp s).inputs = s.inputs := by simp [setSpan]
@[simp] theorem setSpan_chain (k : Nat) (sp : Option Span) (s : State) : (setSpan k sp s).chain = s.chain := by simp [setSpan]

@[simp] theorem setResult_pending (l : Link) (r : Option ServiceResult) (s : State) : (setResult l r s).pending = s.pending := by cases l <;> rfl
@[simp] theorem setResult_pins (l : Link) (r : Option ServiceResult) (s : State) : (setResult l r s).pins = s.pins := by cases l <;> rfl
@[simp] theorem setResult_psc (l : Link) (r : Option ServiceResult) (s : State) : (setResult l r s).psc = s.psc := by cases l <;> rfl
@[simp] theorem setResult_loader (l : Link) (r : Option ServiceResult) (s : State) : (setResult l r s).loader = s.loader := by cases l <;> rfl
@[simp] theorem setResult_image (l : Link) (r : Option ServiceResult) (s : State) : (setResult l r s).image = s.image := by cases l <;> rfl
@[simp] theorem setResult_linkA (l : Link) (r : Option ServiceResult) (s : State) : (setResult l r s).linkA = s.linkA := by cases l <;> rfl
@[simp] theorem setResult_linkB (l : Link) (r : Option ServiceResult) (s : State) : (setResult l r s).linkB = s.linkB := by cases l <;> rfl
@[simp] theorem setResult_plan (l : Link) (r : Option ServiceResult) (s : State) : (setResult l r s).plan = s.plan := by cases l <;> rfl
@[simp] theorem setResult_count (l : Link) (r : Option ServiceResult) (s : State) : (setResult l r s).count = s.count := by cases l <;> rfl
@[simp] theorem setResult_obstructions (l : Link) (r : Option ServiceResult) (s : State) : (setResult l r s).obstructions = s.obstructions := by cases l <;> rfl
@[simp] theorem setResult_heads (l : Link) (r : Option ServiceResult) (s : State) : (setResult l r s).heads = s.heads := by cases l <;> rfl
@[simp] theorem setResult_store (l : Link) (r : Option ServiceResult) (s : State) : (setResult l r s).store = s.store := by cases l <;> rfl
@[simp] theorem setResult_inputs (l : Link) (r : Option ServiceResult) (s : State) : (setResult l r s).inputs = s.inputs := by cases l <;> rfl

/-! ### What each update writes -/

@[simp] theorem setPart_part (p : PartState) (s : State) : (setPart p s).psc.part = p := by simp [setPart]
@[simp] theorem setInhibit_inhibit (v : Bool) (s : State) : (setInhibit v s).plan.inhibit = v := by simp [setInhibit]
@[simp] theorem setInhibit_hold (v : Bool) (s : State) : (setInhibit v s).plan.hold = s.plan.hold := by simp [setInhibit]
@[simp] theorem setInhibit_lanes (v : Bool) (s : State) : (setInhibit v s).plan.lanes = s.plan.lanes := by
  simp [setInhibit]
@[simp] theorem setInhibit_contexts (v : Bool) (s : State) : (setInhibit v s).plan.contexts = s.plan.contexts := by
  simp [setInhibit]
@[simp] theorem setHold_hold (h : HoldSet) (s : State) : (setHold h s).plan.hold = h := by simp [setHold]
@[simp] theorem setHold_inhibit (h : HoldSet) (s : State) : (setHold h s).plan.inhibit = s.plan.inhibit := by
  simp [setHold]
@[simp] theorem setHold_lanes (h : HoldSet) (s : State) : (setHold h s).plan.lanes = s.plan.lanes := by simp [setHold]
@[simp] theorem setHold_contexts (h : HoldSet) (s : State) : (setHold h s).plan.contexts = s.plan.contexts := by
  simp [setHold]
@[simp] theorem setOverlays_overlays (os : List Overlay) (s : State) : (setOverlays os s).store.overlays = os := by
  simp [setOverlays]
@[simp] theorem setOverlays_spans (os : List Overlay) (s : State) : (setOverlays os s).store.spans = s.store.spans := by
  simp [setOverlays]
@[simp] theorem setSpan_spans (k : Nat) (sp : Option Span) (s : State) :
    (setSpan k sp s).store.spans = s.store.spans.set k sp := by simp [setSpan]
@[simp] theorem setSpan_overlays (k : Nat) (sp : Option Span) (s : State) :
    (setSpan k sp s).store.overlays = s.store.overlays := by simp [setSpan]
@[simp] theorem modifyHeads_heads (f : HeadRecord → HeadRecord) (s : State) :
    (modifyHeads f s).heads = s.heads.map f := by simp [modifyHeads]
@[simp] theorem putCtx_contexts (k : Nat) (c : Ctx) (s : State) :
    (putCtx k c s).plan.contexts = s.plan.contexts.set k c := by simp [putCtx]
@[simp] theorem putCtx_lanes (k : Nat) (c : Ctx) (s : State) : (putCtx k c s).plan.lanes = s.plan.lanes := by
  simp [putCtx]
@[simp] theorem putNode_nodes (n : Nat) (r : NodeRecord) (s : State) :
    (putNode n r s).chain.nodes = s.chain.nodes.set (n - 1) r := by unfold putNode; split <;> simp
@[simp] theorem putNode_frame (n : Nat) (r : NodeRecord) (s : State) : (putNode n r s).chain.frame = s.chain.frame := by
  unfold putNode; split <;> simp
@[simp] theorem putNode_queue (n : Nat) (r : NodeRecord) (s : State) : (putNode n r s).chain.queue = s.chain.queue := by
  unfold putNode; split <;> simp

end Sys2Proof.Machine
end

