-- ==== Sys2Proof/Laws/Frame.lean ====
section
/-! SUPPORT. What the engine and the Lane Plan Unit leave as it is: `RoadSame` of every operation they are made of, and
of `settled` (R45, R61, R90). -/

namespace Sys2Proof.Machine

open Sys2Proof

/-! ### Vectors -/

theorem Keeps.refl (v : BitVec 154) : Keeps v v := fun _ h => h

theorem Keeps.trans {u v w : BitVec 154} (h : Keeps u v) (k : Keeps v w) : Keeps u w := fun i x => k i (h i x)

theorem keeps_mark (u : LinkUnit) (i : Nat) : Keeps u.vector (u.mark i).vector := by
  intro j h
  simp [LinkUnit.mark, h]

theorem mark_line (u : LinkUnit) (i : Nat) : (u.mark i).line = u.line := rfl

/-- A report sets its own flag (R184). -/
theorem mark_sets (u : LinkUnit) (i : Nat) (h : i < 154) : (u.mark i).vector.getLsbD i = true := by
  simp [LinkUnit.mark, h]

theorem recorded_report (s : State) (i : Nat) (h : i < 154) : Recorded (s.report i) i :=
  ⟨mark_sets _ _ h, mark_sets _ _ h⟩

/-! ### RoadSame is an order -/

theorem RoadSame.refl (s : State) : RoadSame s s := by
  constructor <;> first | rfl | exact Keeps.refl _

theorem RoadSame.trans {s t u : State} (h : RoadSame s t) (k : RoadSame t u) : RoadSame s u where
  pending := k.pending.trans h.pending
  pins := k.pins.trans h.pins
  psc := k.psc.trans h.psc
  loader := k.loader.trans h.loader
  image := k.image.trans h.image
  count := k.count.trans h.count
  store := k.store.trans h.store
  inputs := k.inputs.trans h.inputs
  chain := k.chain.trans h.chain
  pointer := k.pointer.trans h.pointer
  inhibit := k.inhibit.trans h.inhibit
  hold := k.hold.trans h.hold
  runClock := k.runClock.trans h.runClock
  runMs := k.runMs.trans h.runMs
  laneCount := k.laneCount.trans h.laneCount
  contextCount := k.contextCount.trans h.contextCount
  heads := k.heads.trans h.heads
  lineA := k.lineA.trans h.lineA
  lineB := k.lineB.trans h.lineB
  vectorA := h.vectorA.trans k.vectorA
  vectorB := h.vectorB.trans k.vectorB

/-- A flag recorded stays recorded. -/
theorem Recorded.keep {s t : State} {i : Nat} (h : Recorded s i) (k : RoadSame s t) : Recorded t i :=
  ⟨k.vectorA i h.1, k.vectorB i h.2⟩

/-- The unit of a link, but for its vector. -/
theorem RoadSame.line {s t : State} (h : RoadSame s t) (l : Link) : (t.unit l).line = (s.unit l).line := by
  cases l
  · exact h.lineA
  · exact h.lineB

/-! ### The operations -/

theorem roadSame_report (s : State) (i : Nat) : RoadSame s (s.report i) := by
  constructor <;> first | rfl | exact keeps_mark _ _

theorem roadSame_reportIf (s : State) (c : Bool) (i : Nat) : RoadSame s (s.reportIf c i) := by
  cases c
  · exact RoadSame.refl s
  · exact roadSame_report s i

theorem roadSame_reportAll (is : List Nat) (s : State) : RoadSame s (s.reportAll is) := by
  induction is generalizing s with
  | nil => exact RoadSame.refl s
  | cons i is ih => exact (roadSame_report s i).trans (ih _)

/-- Writing lane records and contexts, as many as before. -/
theorem roadSame_plan (s : State) (lanes : List LaneRecord) (cs : List Ctx)
    (hl : lanes.length = s.plan.lanes.length) (hc : cs.length = s.plan.contexts.length) :
    RoadSame s { s with plan := { s.plan with lanes := lanes, contexts := cs } } := by
  constructor <;> first | rfl | exact hl | exact hc | exact Keeps.refl _

/-- Writing head records, none of whose road fields changes. -/
theorem roadSame_heads (s : State) (f : HeadRecord → HeadRecord) (h : ∀ x, (f x).road = x.road) :
    RoadSame s { s with heads := s.heads.map f } := by
  constructor <;> first | rfl | exact Keeps.refl _ | skip
  simp [List.map_map, Function.comp_def, h]

theorem roadSame_obstructions (s : State) (os : List Obstruction) : RoadSame s { s with obstructions := os } := by
  constructor <;> first | rfl | exact Keeps.refl _

theorem roadSame_modifyLane (lane : Nat) (f : LaneRecord → LaneRecord) (s : State) :
    RoadSame s (modifyLane lane f s) := by
  unfold modifyLane
  split
  · exact RoadSame.refl s
  · exact (roadSame_plan s _ s.plan.contexts (by simp) rfl).trans (roadSame_reportIf _ _ _)

theorem roadSame_putCtx (k : Nat) (c : Ctx) (s : State) : RoadSame s (putCtx k c s) :=
  (roadSame_plan s s.plan.lanes _ rfl (by simp)).trans (roadSame_reportIf _ _ _)

theorem roadSame_modifyActive (k : Nat) (f : CtxBody → CtxBody) (s : State) : RoadSame s (modifyActive k f s) := by
  unfold modifyActive
  split
  · exact roadSame_putCtx _ _ _
  · exact RoadSame.refl s

/-- A fold of steps that each leave the road the same leaves it the same. -/
theorem roadSame_foldl {α : Type} (f : State → α → State) (h : ∀ s x, RoadSame s (f s x)) (xs : List α) (s : State) :
    RoadSame s (xs.foldl f s) := by
  induction xs generalizing s with
  | nil => exact RoadSame.refl s
  | cons x xs ih => exact (h s x).trans (ih _)

/-- The same of a fold that carries a flag beside the state. -/
theorem roadSame_foldlPair {α : Type} (f : State × Bool → α → State × Bool)
    (h : ∀ p x, RoadSame p.1 (f p x).1) (xs : List α) (p : State × Bool) : RoadSame p.1 (xs.foldl f p).1 := by
  induction xs generalizing p with
  | nil => exact RoadSame.refl _
  | cons x xs ih => exact (h p x).trans (ih _)

/-! ### The engine (R44, R45) -/

theorem writeIntended_road (lost : Bool) (a : Intended) (h : HeadRecord) : (writeIntended lost a h).road = h.road := by
  cases lost <;> rfl

theorem rewriteHead_road (v : Derive) (s : State) (h : HeadRecord) : (rewriteHead v s h).road = h.road := by
  unfold rewriteHead
  split
  · rfl
  · exact writeIntended_road _ _ _

theorem roadSame_writeFlags (obs : List Obstruction) (s : State) : RoadSame s (writeFlags obs s) :=
  roadSame_foldl _ (fun _ _ => roadSame_modifyLane _ _ _) _ _

theorem roadSame_reportProtection (old new : List Obstruction) (s : State) :
    RoadSame s (reportProtection old new s) :=
  (roadSame_reportAll _ _).trans (roadSame_reportIf _ _ _)

theorem roadSame_computeOnce (s : State) : RoadSame s (computeOnce s).1 := by
  unfold computeOnce
  split
  · exact RoadSame.refl s
  · split
    · exact ((roadSame_heads s _ (rewriteHead_road _ s)).trans (roadSame_reportAll _ _)).trans
        ((roadSame_writeFlags _ _).trans ((roadSame_obstructions _ _).trans (roadSame_reportProtection _ _ _)))
    · exact RoadSame.refl s

/-! ### The Lane Plan Unit (R90) -/

theorem roadSame_clearConflicts (s : State) : RoadSame s (clearConflicts s) :=
  roadSame_foldl _ (fun _ _ => by
    split
    · exact roadSame_modifyLane _ _ _
    · exact RoadSame.refl _) _ _

theorem roadSame_takeSnapshot (k lane : Nat) (s : State) : RoadSame s (takeSnapshot k lane s) :=
  (roadSame_modifyActive _ _ _).trans (roadSame_report _ _)

theorem roadSame_enterClearing (k lane : Nat) (d : Option Dir) (s : State) :
    RoadSame s (enterClearing k lane d s) :=
  (roadSame_takeSnapshot _ _ _).trans (roadSame_modifyLane _ _ _)

theorem roadSame_finishCtx (k : Nat) (s : State) : RoadSame s (finishCtx k s) := by
  unfold finishCtx
  split
  · split
    · exact roadSame_putCtx _ _ _
    · exact RoadSame.refl s
  · exact RoadSame.refl s

theorem roadSame_releaseLane (k lane : Nat) (s : State) : RoadSame s (releaseLane k lane s) :=
  roadSame_modifyActive _ _ _

theorem roadSame_openingStep (k : Nat) (body : CtxBody) (s : State) : RoadSame s (openingStep k body s) := by
  refine (roadSame_foldl _ (fun s e => ?_) _ _).trans (roadSame_finishCtx _ _)
  show RoadSame s (match e.target with
    | .closed => releaseLane k e.lane (modifyLane e.lane (LaneRecord.settleAs none) s)
    | .opened d => modifyLane e.lane (fun r => { r with phase := .openingBody, direction := some d }) s)
  split
  · exact (roadSame_modifyLane _ _ _).trans (roadSame_releaseLane _ _ _)
  · exact roadSame_modifyLane _ _ _

theorem roadSame_advanceLane (b : Bore) (k : Nat) (e : CtxEntry) (s : State) :
    RoadSame s (advanceLane b k e s).1 := by
  unfold advanceLane
  repeat' split
  all_goals first
    | exact RoadSame.refl s
    | exact roadSame_enterClearing _ _ _ _
    | exact roadSame_modifyLane _ _ _
    | exact ((roadSame_modifyLane _ _ _).trans (roadSame_releaseLane _ _ _)).trans (roadSame_finishCtx _ _)

theorem roadSame_examineCtx (b : Bore) (k : Nat) (s : State) : RoadSame s (examineCtx b k s).1 := by
  unfold examineCtx
  split
  · split
    · exact RoadSame.refl s
    · split
      · split
        · exact roadSame_openingStep _ _ _
        · exact RoadSame.refl s
      · exact roadSame_foldlPair (fun p e => ((advanceLane b k e p.1).1, p.2 || (advanceLane b k e p.1).2))
          (fun p e => roadSame_advanceLane b k e p.1) _ (s, false)
  · exact RoadSame.refl s

theorem roadSame_formWait (b : Bore) (k : Nat) (s : State) : RoadSame s (formWait b k s) := by
  unfold formWait
  split
  · exact roadSame_modifyActive _ _ _
  · exact RoadSame.refl s

theorem roadSame_examineAll (b : Bore) (s : State) : RoadSame s (examineAll b s).1 :=
  roadSame_foldlPair
    (fun p k => ((examineCtx b k (formWait b k p.1)).1, p.2 || (examineCtx b k (formWait b k p.1)).2))
    (fun p k => (roadSame_formWait b k p.1).trans (roadSame_examineCtx b k _)) _ (s, false)

theorem roadSame_settle (fuel : Nat) (c : Bool) (s : State) : RoadSame s (settle fuel c s) := by
  induction fuel generalizing c s with
  | zero => exact RoadSame.refl s
  | succ n ih =>
    unfold settle
    split
    · exact RoadSame.refl s
    · rename_i b _
      have hc : RoadSame s (if c then computeOnce s else (s, false)).1 := by
        cases c
        · exact RoadSame.refl s
        · exact roadSame_computeOnce s
      have he := (hc.trans (roadSame_clearConflicts _)).trans (roadSame_examineAll b _)
      exact he.trans (by
        generalize (if c then computeOnce s else (s, false)) = q
        dsimp only
        by_cases h : (q.2 || (examineAll b (clearConflicts q.1)).2) = true
        · rw [if_pos h]; exact ih _ _
        · rw [if_neg h]; exact RoadSame.refl _)

/-- Once for all: what an event's work of the engine and the Lane Plan Unit leaves as it is (R45, R61, R64, R90). -/
theorem roadSame_settled (c : Bool) (s : State) : RoadSame s (settled c s) := roadSame_settle _ _ _

end Sys2Proof.Machine
end

