-- ==== Sys2Proof/Laws/Links.lean ====
section
/-! SUPPORT. What a Link Unit does with a request frame, once for all requests: the five things `serve` can do (R179 to
R182). -/

namespace Sys2Proof.Machine

open Sys2Proof

theorem linkCheck_setRx (s : State) (l m : Link) (r : Receiver) (code : Nat) (ok : Bool) :
    linkCheck (setRx l r s) m code ok = linkCheck s m code ok := by cases l <;> rfl

/-- A reply without data, from the state in which the frame was taken. -/
theorem beginReply_plain (l : Link) (code : Nat) (fields : List Byte) (st : Status) (s : State) :
    beginReply l code fields (Answer.plain st) (setRx l Receiver.idle s) = s.answered l code fields st [] .unset := by
  cases l <;> cases st <;> rfl

/-- An OK reply, from the state in which the frame was taken. -/
theorem beginReply_ok (l : Link) (code : Nat) (fields data : List Byte) (action : ReplyAction) (s : State) :
    beginReply l code fields ⟨.ok, data, action⟩ (setRx l Receiver.idle s) =
      s.answered l code fields .ok data action := by
  cases l <;> simp [beginReply, setRx, State.answered, LinkUnit.replying, replyPayload, State.setUnit, State.unit]

section Serve

variable {code : Nat} {ok : List Byte → Bool} {body : Link → List Byte → State → State × Answer} {l : Link}
  {fields : List Byte} {s : State}

theorem serve_resetLow (h : s.pins.resetLow = true) : serve code ok body l fields s = s := by simp [serve, h]

theorem serve_loading (h : s.pins.resetLow = false) (hl : s.psc.part = .loading) :
    serve code ok body l fields s = s.setUnit l { s.unit l with rx := Receiver.idle } := by
  simp [serve, h, hl, discardFrame, setRx]

theorem serve_serving (h : s.pins.resetLow = false) (hl : s.psc.part ≠ .loading) (hs : (s.unit l).serving = true) :
    serve code ok body l fields s = s.setUnit l { s.unit l with rx := Receiver.idle, overrun := true } := by
  simp [serve, h, hl, hs, markOverrun]

theorem serve_refused {st : Status} (h : Ready s l) (hc : linkCheck s l code (ok fields) = some st) :
    serve code ok body l fields s = s.answered l code fields st [] .unset := by
  obtain ⟨h1, h2, h3⟩ := h
  simp only [serve, h1, h3, if_neg h2, linkCheck_setRx, hc]
  simpa using beginReply_plain l code fields st s

theorem serve_body (h : Ready s l) (hc : linkCheck s l code (ok fields) = none) :
    serve code ok body l fields s = beginReply l code fields (body l fields (setRx l Receiver.idle s)).2
      (body l fields (setRx l Receiver.idle s)).1 := by
  obtain ⟨h1, h2, h3⟩ := h
  simp [serve, h1, h3, if_neg h2, linkCheck_setRx, hc]

end Serve

/-- The last byte of a reply left by entry to LOADING ends that reply alone (R179). -/
theorem finishReply_leaving {l : Link} {s : State} {q : Leaving} {rest : List Leaving}
    (h : (s.unit l).leaving = q :: rest) :
    finishReply l s = s.setUnit l { s.unit l with leaving := rest } := by simp [finishReply, h]

/-- With no reply left, the last byte of the reply due ends the serving, and what waited for it takes effect (R160, R171,
R179). -/
theorem finishReply_due {l : Link} {s : State} {e : Exchange} (h : (s.unit l).leaving = [])
    (he : (s.unit l).exchange = some e) :
    finishReply l s = (match e.action with
      | .unset => fun t => t
      | .reload => enterLoading
      | .restart => takeRestart) (s.setUnit l { s.unit l with serving := false, exchange := none }) := by
  simp only [finishReply, h, finishExchange, he]
  cases e.action <;> rfl

/-- An admitted request of the right length passes the unit's checks (R181). -/
theorem linkCheck_admitted {s : State} {l : Link} {code : Nat} (h : Admitted s l code) :
    linkCheck s l code true = none := by
  obtain ⟨⟨-, hl, -⟩, hg, hk⟩ := h
  have ha : admits code s.psc.part = true := by
    unfold admits
    obtain ⟨h1, h2⟩ | ⟨h1, h2, h3⟩ | ⟨h1, h2⟩ | h1 := hg
    · rw [if_pos (by omega)]
    · rw [if_neg (by omega), if_pos (by omega)]; simpa using h3
    · subst h1
      obtain h | h | h := h2 <;> simp [h]
    · subst h1; rfl
  have hn : (locked s l && decide (0x20 ≤ code)) = false := by
    obtain h | h := hk
    · simp [Nat.not_le.mpr h]
    · simp [h]
  simp [linkCheck, ha, hn]

/-- An admitted request of a wrong length is FORMAT (R181 check 5). -/
theorem linkCheck_badLength {s : State} {l : Link} {code : Nat} (h : Admitted s l code) :
    linkCheck s l code false = some .format := by
  have h0 := linkCheck_admitted h
  unfold linkCheck at *
  split at h0
  · cases h0
  · rw [if_neg ‹_›]
    split at h0
    · cases h0
    · rw [if_neg ‹_›]; rfl

end Sys2Proof.Machine
end

