-- ==== Sys2Proof/Laws/Patterns.lean ====
section
/-! SUPPORT. The patterns of the Lane Plan Unit, lane by lane (R12, R13, R14, R98). -/

namespace Sys2Proof.Laws

open Sys2Proof Sys2Proof.Machine

/-- The model's test of legality is R12's. -/
theorem legalPattern_iff (b : Bore) (p : Pattern) : legalPattern b p = true ↔ Legal b p := by
  have idx : ∀ i d, p[i]? = some (some d) → i < p.length := fun i d h => (List.getElem?_eq_some_iff.mp h).1
  have core : ∀ i j, (!(assigned p i .rising && assigned p j .falling) || pairLegal b i j) = true ↔
      (p[i]? = some (some .rising) → p[j]? = some (some .falling) →
        (if b.risingSide = .lo then i < j else j < i) ∧ (b.bufferRequired = true → i + 1 ≠ j ∧ j + 1 ≠ i)) := by
    intro i j
    simp only [assigned, pairLegal, Bool.or_eq_true, Bool.not_eq_true', Bool.and_eq_false_iff, decide_eq_false_iff_not,
      Bool.and_eq_true, decide_eq_true_eq]
    cases b.risingSide <;> cases b.bufferRequired <;> simp <;> tauto
  constructor
  · intro h i j hi hj
    simp only [legalPattern, List.all_eq_true, List.mem_range] at h
    exact (core i j).mp (h i (idx i _ hi) j (idx j _ hj)) hi hj
  · intro h
    simp only [legalPattern, List.all_eq_true, List.mem_range]
    exact fun i _ j _ => (core i j).mpr (h i j)

/-- `presentDir` is the direction a lane stands in. -/
theorem presentDir_eq (r : LaneRecord) : presentDir r = standingDir r := by
  unfold presentDir standingDir
  cases r.phase <;> simp

/-- A pattern formed lane by lane from the lane records is the pattern of any relation its function meets. -/
theorem patternOf_map {s : State} {dir : LaneRecord → Option Dir → Prop} {f : LaneRecord → Option Dir}
    (h : ∀ r ∈ s.plan.lanes, dir r (f r)) : PatternOf s dir (s.plan.lanes.map f) :=
  ⟨List.length_map .., fun i r hr => ⟨f r, by simp [hr], h r (List.mem_of_getElem? hr)⟩⟩

/-- No two ACTIVE contexts, nor two entries of one, hold a lane for different targets. -/
def TargetsAgree (s : State) : Prop :=
  ∀ (k k' : Nat) (x x' : CtxBody), ctx? s k = some (.active x) → ctx? s k' = some (.active x') →
    ∀ e ∈ x.entries, ∀ e' ∈ x'.entries, e.held = true → e'.held = true → e.lane = e'.lane → e.target = e'.target

/-- A lane's listed target is that of an ACTIVE context that holds it. -/
theorem listedTarget_some {s : State} {lane : Nat} {t : Target} (h : listedTarget s lane = some t) :
    ∃ k body, ctx? s k = some (.active body) ∧ ∃ e ∈ body.entries, e.held = true ∧ e.lane = lane ∧ e.target = t := by
  obtain ⟨c, hc, hf⟩ := List.exists_of_findSome?_eq_some h
  obtain ⟨k, hk⟩ := List.getElem?_of_mem hc
  cases c with
  | active body =>
    simp only [Option.map_eq_some_iff] at hf
    obtain ⟨e, he, ht⟩ := hf
    have m := List.mem_of_find?_eq_some he
    have l := List.find?_some he
    simp only [CtxBody.heldEntries, List.mem_filter] at m
    exact ⟨k, body, hk, e, m.1, m.2, by simpa using l, ht⟩
  | free => simp at hf
  | done _ _ => simp at hf

/-- A lane held in an ACTIVE context has a listed target. -/
theorem listedTarget_of_held {s : State} {k : Nat} {body : CtxBody} {e : CtxEntry} (hk : ctx? s k = some (.active body))
    (he : e ∈ body.entries) (hh : e.held = true) : ∃ t, listedTarget s e.lane = some t := by
  refine Option.isSome_iff_exists.mp (List.findSome?_isSome_iff.mpr ⟨_, List.mem_of_getElem? hk, ?_⟩)
  simp only [Option.isSome_map, List.find?_isSome]
  exact ⟨e, by simp [CtxBody.heldEntries, he, hh], by simp⟩

/-- The committed pattern of the model is R13's, lane by lane. -/
theorem committed_patternOf {s : State} {pairs : List (Nat × Target)} (hc : TargetsAgree s)
    (hp : (pairs.map (·.1)).Nodup) : PatternOf s (CommittedDir s pairs) (committedPattern s pairs) := by
  refine patternOf_map fun r _ => ⟨fun t ht => ?_, fun hn => ?_⟩
  · cases hf : pairs.find? (fun p => decide (p.1 = r.lane)) with
    | none => exact absurd (List.find?_eq_none.mp hf _ ht) (by simp)
    | some q =>
      have hq := List.mem_of_find?_eq_some hf
      have hl : q.1 = r.lane := by simpa using List.find?_some hf
      have : q = (r.lane, t) := List.inj_on_of_nodup_map hp hq ht hl
      simp [this]
  · have hf : pairs.find? (fun p => decide (p.1 = r.lane)) = none :=
      List.find?_eq_none.mpr fun q hq he => hn q.2 (by
        have : q.1 = r.lane := by simpa using he
        rwa [← this])
    simp only [hf]
    refine ⟨fun k body hk e he hh hl => ?_, fun hx => ?_⟩
    · obtain ⟨t, ht⟩ := listedTarget_of_held hk he hh
      obtain ⟨k', body', hk', e', he', hh', hl', rfl⟩ := listedTarget_some ht
      rw [hl] at ht
      simp only [ht]
      rw [hc k' k body' body hk' hk e' he' e he hh' hh hl']
    · cases ht : listedTarget s r.lane with
      | none => rfl
      | some t =>
        obtain ⟨k, body, hk, e, he, hh, hl, _⟩ := listedTarget_some ht
        refine absurd ⟨k, (List.getElem?_eq_some_iff.mp hk).1, ?_⟩ hx
        simp only [heldLanes, hk, CtxBody.heldEntries]
        exact List.mem_map.mpr ⟨e, by simp [he, hh], hl⟩

/-- The pattern of the opening step is R98's, lane by lane. -/
theorem opened_patternOf {s : State} {body : CtxBody}
    (hc : ∀ e ∈ body.entries, ∀ e' ∈ body.entries, e.held = true → e'.held = true → e.lane = e'.lane →
      e.target = e'.target) : PatternOf s (OpenedDir body) (openedPattern s body) := by
  refine patternOf_map fun r _ => ?_
  cases hf : body.heldEntries.find? (fun e => decide (e.lane = r.lane)) with
  | none =>
    have hn : ∀ e ∈ body.entries, e.held = true → e.lane ≠ r.lane := fun e he hh hl =>
      absurd (List.find?_eq_none.mp hf e (by simp [CtxBody.heldEntries, he, hh])) (by simp [hl])
    exact ⟨fun e he hh hl => absurd hl (hn e he hh), fun _ => presentDir_eq r⟩
  | some e =>
    have m := List.mem_of_find?_eq_some hf
    simp only [CtxBody.heldEntries, List.mem_filter] at m
    have l : e.lane = r.lane := by simpa using List.find?_some hf
    refine ⟨fun e' he' hh' hl' d ht => ?_, fun h => ?_⟩
    · have : e.target = .opened d := (hc e m.1 e' he' m.2 hh' (l.trans hl'.symm)).trans ht
      simp [this]
    · simp [h e m.1 m.2 l, presentDir_eq]

end Sys2Proof.Laws
end

