-- ==== Sys2Proof/Laws/Records.lean ====
section
/-! SUPPORT. What each named write does to the record it names and to the records beside it, once for each. -/

namespace Sys2Proof.Machine

open Sys2Proof

/-! ### Lists numbered from 1 -/

theorem from1_set_same {α : Type} (l : List α) (n : Nat) (x y : α) (h : from1 l n = some y) :
    from1 (l.set (n - 1) x) n = some x := by
  unfold from1 at *
  split at h
  · cases h
  · rw [if_neg ‹_›]
    have : n - 1 < l.length := (List.getElem?_eq_some_iff.mp h).1
    simp [this]

theorem from1_set_other {α : Type} (l : List α) (n m : Nat) (x : α) (hn : n ≠ 0) (h : m ≠ n) :
    from1 (l.set (n - 1) x) m = from1 l m := by
  unfold from1
  by_cases hm : m = 0
  · simp [hm]
  · rw [if_neg hm, if_neg hm, List.getElem?_set_ne (by omega)]

theorem from1_ne_zero {α : Type} {l : List α} {n : Nat} {x : α} (h : from1 l n = some x) : n ≠ 0 := by
  intro hn
  simp [from1, hn] at h

/-! ### Lane records (R15) -/

theorem modifyLane_absent (lane : Nat) (f : LaneRecord → LaneRecord) (s : State) (h : lane? s lane = none) :
    modifyLane lane f s = s := by simp [modifyLane, h]

theorem modifyLane_lanes (lane : Nat) (f : LaneRecord → LaneRecord) (s : State) (r : LaneRecord)
    (h : lane? s lane = some r) : (modifyLane lane f s).plan.lanes = s.plan.lanes.set (lane - 1) (f r) := by
  simp [modifyLane, h]

theorem lane?_modifyLane (lane : Nat) (f : LaneRecord → LaneRecord) (s : State) :
    lane? (modifyLane lane f s) lane = (lane? s lane).map f := by
  cases h : lane? s lane with
  | none => simp [modifyLane_absent lane f s h, h]
  | some r =>
    unfold lane?
    rw [modifyLane_lanes lane f s r h]
    exact from1_set_same _ _ _ r h

theorem lane?_modifyLane_other (lane other : Nat) (f : LaneRecord → LaneRecord) (s : State) (h : other ≠ lane) :
    lane? (modifyLane lane f s) other = lane? s other := by
  cases hr : lane? s lane with
  | none => rw [modifyLane_absent lane f s hr]
  | some r =>
    unfold lane?
    rw [modifyLane_lanes lane f s r hr]
    exact from1_set_other _ _ _ _ (from1_ne_zero hr) h

theorem modifyLane_contexts (lane : Nat) (f : LaneRecord → LaneRecord) (s : State) :
    (modifyLane lane f s).plan.contexts = s.plan.contexts := by
  unfold modifyLane
  split <;> simp

theorem modifyLane_hold (lane : Nat) (f : LaneRecord → LaneRecord) (s : State) :
    (modifyLane lane f s).plan.hold = s.plan.hold := by
  unfold modifyLane
  split <;> simp

theorem ctx?_modifyLane (lane k : Nat) (f : LaneRecord → LaneRecord) (s : State) :
    ctx? (modifyLane lane f s) k = ctx? s k := by simp [ctx?, modifyLane_contexts]

/-! ### Contexts (R86) -/

theorem ctx?_putCtx (k : Nat) (c : Ctx) (s : State) (h : k < s.plan.contexts.length) :
    ctx? (putCtx k c s) k = some c := by simp [ctx?, h]

theorem ctx?_putCtx_other (k j : Nat) (c : Ctx) (s : State) (h : j ≠ k) : ctx? (putCtx k c s) j = ctx? s j := by
  simp [ctx?, List.getElem?_set_ne (Ne.symm h)]

theorem lane?_putCtx (k lane : Nat) (c : Ctx) (s : State) : lane? (putCtx k c s) lane = lane? s lane := by
  simp [lane?]

theorem ctx?_modifyActive (k : Nat) (f : CtxBody → CtxBody) (s : State) (body : CtxBody)
    (h : ctx? s k = some (.active body)) : ctx? (modifyActive k f s) k = some (.active (f body)) := by
  have : k < s.plan.contexts.length := (List.getElem?_eq_some_iff.mp h).1
  simp only [modifyActive, h]
  exact ctx?_putCtx k _ s this

theorem ctx?_modifyActive_other (k j : Nat) (f : CtxBody → CtxBody) (s : State) (h : j ≠ k) :
    ctx? (modifyActive k f s) j = ctx? s j := by
  unfold modifyActive
  split
  · exact ctx?_putCtx_other k j _ s h
  · rfl

theorem lane?_modifyActive (k lane : Nat) (f : CtxBody → CtxBody) (s : State) :
    lane? (modifyActive k f s) lane = lane? s lane := by
  unfold modifyActive
  split
  · exact lane?_putCtx ..
  · rfl

/-! ### Node records (R144) -/

theorem node?_putNode (n : Nat) (r old : NodeRecord) (s : State) (h : node? s n = some old) :
    node? (putNode n r s) n = some r := by
  unfold node?
  rw [putNode_nodes]
  exact from1_set_same _ _ _ old h

theorem node?_putNode_other (n m : Nat) (r : NodeRecord) (s : State) (hn : n ≠ 0) (h : m ≠ n) :
    node? (putNode n r s) m = node? s m := by
  unfold node?
  rw [putNode_nodes]
  exact from1_set_other _ _ _ _ hn h

/-! ### Section records (R29) -/

theorem modifySection_absent (b : Bore) (lane index : Nat) (f : SectionRecord → SectionRecord) (s : State)
    (h : sectionAt? s b lane index = none) : modifySection b lane index f s = s := by simp [modifySection, h]

theorem modifySection_sections (b : Bore) (lane index : Nat) (f : SectionRecord → SectionRecord) (s : State)
    (x : SectionRecord) (h : sectionAt? s b lane index = some x) :
    (modifySection b lane index f s).count.sections = s.count.sections.set (sectionPlace b lane index) (f x) := by
  simp only [modifySection, h, State.reportIf]
  split <;> rfl

theorem sectionAt?_modifySection (b : Bore) (lane index : Nat) (f : SectionRecord → SectionRecord) (s : State) :
    sectionAt? (modifySection b lane index f s) b lane index = (sectionAt? s b lane index).map f := by
  cases h : sectionAt? s b lane index with
  | none => simp [modifySection_absent b lane index f s h, h]
  | some x =>
    have e := modifySection_sections b lane index f s x h
    unfold sectionAt? at h ⊢
    rw [e]
    split at h
    · rw [if_pos ‹_›]
      have : sectionPlace b lane index < s.count.sections.length := (List.getElem?_eq_some_iff.mp h).1
      simp [this]
    · cases h

end Sys2Proof.Machine
end

