-- ==== Sys2Proof/Tests/Slice0.lean ====
section
/-! SUPPORT. Tests: well-formedness, check values and worked numbers of the spec, one or two steps of each command, and a
witness for the hypotheses of each statement. The small bore has a FIXED_RISING, a TIDAL and a FIXED_FALLING lane. -/

namespace Sys2Proof.Tests

open Sys2Proof Sys2Proof.Machine

set_option Elab.async false

/-! ### The small bore and its states -/

/-- An unrouted input. -/
def spare : InputCfg := ⟨.unrouted, .activeClosed, .ms10⟩

/-- Three lanes, four gantries, two stations, one zone; EIN0 ZONE_STOP, EIN1 SEQUENCE_HOLD, EIN2 LOCK_A. -/
def bore : Bore where
  risingSide := .lo
  bufferRequired := false
  leadIn := 300
  pitch := 5
  crawl := 20
  minHold := 30
  clearingTimeout := 900
  restoreWindow := 60
  proofTimeout := 10
  lampLimit := 2
  lanes := [⟨.fixedRising, .lo⟩, ⟨.tidal, .lo⟩, ⟨.fixedFalling, .hi⟩]
  gantries := [⟨0, .approach1, 0x0007#16, 6, 0⟩, ⟨500, .body, 0x0707#16, 6, 1⟩, ⟨1500, .body, 0x0707#16, 2, 1⟩,
    ⟨2000, .approach2, 0x0700#16, 6, 3⟩]
  stations := [⟨600, 1⟩, ⟨1400, 1⟩]
  zones := [⟨500, 1500⟩]
  inputs := [⟨.zoneStop 1, .activeClosed, .ms50⟩, ⟨.sequenceHold, .activeClosed, .ms10⟩,
    ⟨.lockLink .a, .activeClosed, .ms10⟩] ++ List.replicate 13 spare

/-- The next state of a command. -/
def after (c : Instr) (s : State) : State :=
  match exec c s with
  | .next t => t
  | .fault _ => s
  | .refused _ => s

/-- The bore just loaded: STARTUP FRESH (R166). -/
def loaded : State := acceptImage bore State.reset

/-- Vectors clear, as after a SUMMARY on each link. -/
def quiet (s : State) : State :=
  { s with linkA := { s.linkA with vector := 0 }, linkB := { s.linkB with vector := 0 } }

/-- Whether a head is an arrow of the small bore's normal pattern: lane 1 rising, lane 3 falling. -/
def normal (h : HeadRecord) : Bool :=
  decide (h.lane = 1 ∧ h.face = .rising) || decide (h.lane = 3 ∧ h.face = .falling)

/-- A head of the normal pattern, proven. -/
def provenHead (h : HeadRecord) : HeadRecord :=
  { h with
    intended := if normal h then .arrow else .cross
    reported := if normal h then .arrow else .cross
    proof := .proven }

/-- RUN with lane 1 OPEN rising, lane 2 CLOSED, lane 3 OPEN falling; sections CLEAR, nodes GOOD, heads PROVEN, the
inhibit clear, a chain frame under way. -/
def run : State :=
  quiet { loaded with
    psc := ⟨.run, none, 0, LoadFault.clear⟩
    plan := { loaded.plan with
      inhibit := false
      lanes := [(LaneRecord.formed 1 ⟨.fixedRising, .lo⟩).settleAs (some .rising), LaneRecord.formed 2 ⟨.tidal, .lo⟩,
        (LaneRecord.formed 3 ⟨.fixedFalling, .hi⟩).settleAs (some .falling)] }
    count := { loaded.count with sections := loaded.count.sections.map (fun x => { x with state := .clear }) }
    heads := loaded.heads.map provenHead
    chain := { loaded.chain with
      nodes := loaded.chain.nodes.map (fun r => { r with health := .good })
      frame := some ⟨0, .drive, [], 1, [], false, false⟩ } }

/-- In the slot of node n of the frame under way; the node after the last stands for the service slot. -/
def atSlot (n : Nat) (s : State) : State :=
  { s with chain := { s.chain with frame := s.chain.frame.map (fun f => { f with slot := n }) } }

/-- A change of one lane record. -/
def withLane (lane : Nat) (f : LaneRecord → LaneRecord) (s : State) : State :=
  { s with plan := { s.plan with lanes := s.plan.lanes.map (fun r => if r.lane = lane then f r else r) } }

/-- A change of one node record. -/
def withNode (n : Nat) (f : NodeRecord → NodeRecord) (s : State) : State :=
  { s with chain := { s.chain with nodes := s.chain.nodes.map (fun r => if r.node = n then f r else r) } }

/-- A change of one section record. -/
def withSection (lane index : Nat) (f : SectionRecord → SectionRecord) (s : State) : State :=
  { s with count := { s.count with sections := s.count.sections.map (fun x =>
    if x.lane = lane ∧ x.index = index then f x else x) } }

/-- A change of one head record. -/
def withHead (g lane : Nat) (d : Dir) (f : HeadRecord → HeadRecord) (s : State) : State :=
  { s with heads := s.heads.map (fun h => if h.gantry = g ∧ h.lane = lane ∧ h.face = d then f h else h) }

/-- In another part state. -/
def inPart (p : PartState) (s : State) : State := { s with psc := { s.psc with part := p } }

/-- CHANGE {2→FALLING} taken: lane 2 CLEARING with no direction in context 0. -/
def changing : State := after (.change .a [1#8, 2#8, 2#8]) run

/-- Lane 2 at the end of its hold timer. -/
def runOut : State := withLane 2 (fun r => { r with holdRemaining := 0 }) changing

/-- Lane 2 CLEARED, its context waiting at the opening step under a hold. -/
def cleared : State :=
  withLane 2 (fun r => { r.leaveClearing with phase := .cleared, direction := some .falling }) changing

/-- A gantry's reply: READY, not probed, with the twelve position bytes. -/
def ready (g : Nat) (positions : List Nat) : Heard := some (chainBlock (byte g :: 0#8 :: 0#8 :: positions.map byte))

/-- Gantry 2's reply in the normal pattern. -/
def normal2 : Heard := ready 2 [1, 2, 2, 0, 0, 0, 2, 2, 1, 0, 0, 0]

/-! ### Check values and worked numbers -/

/-- "123456789". -/
def check : List Byte := [0x31#8, 0x32#8, 0x33#8, 0x34#8, 0x35#8, 0x36#8, 0x37#8, 0x38#8, 0x39#8]

/-- The CRC-16 with this polynomial and initial value has the check value 0x29B1. -/
theorem test_crc16_check : crc16 check = 0x29B1#16 := by decide +kernel

/-- The CRC-32 of R163 has the check value 0xCBF43926. -/
theorem test_crc32_check : crc32 check = 0xCBF43926#32 := by decide +kernel

/-- A bore whose two stations stand a number of metres apart. -/
def span (m v hold : Nat) : Bore := { bore with crawl := v, minHold := hold, stations := [⟨0, 1⟩, ⟨m, 1⟩] }

/-- The table of R92. -/
theorem test_clear_hold_table :
    (clearHold (span 800 20 30), clearHold (span 730 17 30), clearHold (span 1234 45 30), clearHold (span 200 60 30),
      clearHold (span 2000 5 30), computedClearHold (span 2000 5 30)) =
      (144000, 154600, 98800, 30000, 600000, 1440000) := by decide +kernel

/-- The capacities of R27: 798 m and 799 m at a pitch of 7 m hold 114. -/
theorem test_capacity : (sectionCapacity { span 798 20 30 with pitch := 7 } 0,
    sectionCapacity { span 799 20 30 with pitch := 7 } 0) = (114, 114) := by decide +kernel

/-- R87's example: 0, 1 and 3 DONE, 2, 4 and 5 ACTIVE, the pointer at 2: context 3 is taken, then 0. -/
theorem test_allocation_example :
    let d := Ctx.done ⟨.a, [], .unset, 0⟩ .completed
    let x := Ctx.active ⟨.a, [], .unset, 0⟩
    let s := { run with plan := { run.plan with contexts := [d, d, x, d, x, x], pointer := 2 } }
    allocation s = some 3 ∧ allocation { s with plan := { s.plan with
      contexts := [d, d, x, x, x, x], pointer := 4 } } = some 0 := by decide +kernel

/-- Bytes as the spec gives their bits: 0xA5 is start, 1 0 1 0 0 1 0 1 from the least significant, stop. -/
theorem test_serial_bits : serialBits 0xA5#8 =
    [false, true, false, true, false, false, true, false, true, true] := by decide

/-- R162: the header read is addressed by 0x74, two address bytes 0, then 0x75; the body read by address bytes 0 and 16. -/
theorem test_addressing : addressing .header = [.start, .send 0x74#8, .send 0#8, .send 0#8, .start, .send 0x75#8] ∧
    addressing .body = [.start, .send 0x74#8, .send 0#8, .send 16#8, .start, .send 0x75#8] := by decide

/-- A RELOAD lets the slot in progress end before the chain is silent (R138, R160). -/
theorem test_reload_cuts : let s := after (.replySent .a) (after (.reload .a []) (atSlot 2 run))
    s.chain.frame.map (fun f => (f.slot, f.cut)) = some (2, true) ∧
      (after (.nodeReplyWindowEnd 2 none none) s).chain.frame = none := by decide +kernel

/-- Falling spans of R60: 1500 to 1800 gives 6200 to 6500. -/
theorem test_falling_span : (spanStart .falling 1500 1800, spanEnd .falling 1500 1800) = (6200, 6500) := by decide

/-! ### Well-formedness: a term each check refuses -/

theorem test_wf_request_length : (Instr.status .a (List.replicate 200 0#8)).wf = false := by decide +kernel
theorem test_wf_request_good : (Instr.change .a [1#8, 2#8, 2#8]).wf = true := by decide
theorem test_wf_restoreSweep : (Instr.restoreSweep .a [2#8, 0#8, 2#8]).wf = false := by decide
theorem test_wf_restoreDirect : (Instr.restoreDirect .a [2#8, 0#8, 1#8]).wf = false := by decide
theorem test_wf_unknown_known_code : (Instr.unknownRequestCode .a [0x10#8]).wf = false := by decide
theorem test_wf_unknown_empty : (Instr.unknownRequestCode .a []).wf = false := by decide
theorem test_wf_overrun : (Instr.overrun .a []).wf = false := by decide
theorem test_wf_discard : (Instr.linkFrameDiscard .a []).wf = false := by decide
theorem test_wf_contact : (Instr.einContactChange 16 .closed).wf = false := by decide
theorem test_wf_filtered : (Instr.filteredLevelChange 16).wf = false := by decide
theorem test_wf_window : (Instr.nodeReplyWindowEnd 69 none none).wf = false := by decide
theorem test_wf_busy : (Instr.busyExpiry 0 none none).wf = false := by decide
theorem test_wf_lost : (Instr.nodeLost 0 none none).wf = false := by decide
theorem test_wf_suspect : (Instr.nodeSuspect 69 none none).wf = false := by decide
theorem test_wf_recovered : (Instr.nodeRecovered 0 none none).wf = false := by decide
theorem test_wf_proofTimeout : (Instr.proofTimeout 49 1 .rising none none).wf = false := by decide
theorem test_wf_recoveryRun : (Instr.recoveryRunComplete 1 7 .rising none none).wf = false := by decide
theorem test_wf_wrongArrow : (Instr.wrongArrow 0 1 .rising none none).wf = false := by decide
theorem test_wf_window_expiry : (Instr.restoreWindowExpiry 1 19).wf = false := by decide
theorem test_wf_holdTimer : (Instr.holdTimerExpiry 7).wf = false := by decide
theorem test_wf_clearing : (Instr.clearingTimeout 0).wf = false := by decide
theorem test_wf_header : (Instr.headerReadComplete (List.replicate 15 0#8)).wf = false := by decide
theorem test_wf_body : (Instr.bodyReadComplete []).wf = false := by decide

/-! ### One step of each command -/

/-- The reply due on a link. -/
def replyOf (s : State) (l : Link) : Option (List Byte) := (s.unit l).exchange.map (·.reply)

/-- Phase and direction of a lane. -/
def laneAt (s : State) (lane : Nat) : Option (Phase × Option Dir) := (lane? s lane).map (fun r => (r.phase, r.direction))

/-- Proof state of a head. -/
def proofAt (s : State) (g lane : Nat) (d : Dir) : Option Proof := (head? s g lane d).map (·.proof)

/-- State of a section. -/
def sectionAt (s : State) (lane index : Nat) : Option (Nat × SectionState) :=
  (sectionAt? s bore lane index).map (fun x => (x.occupancy, x.state))

/-- A station's reply: READY, with loop pairs in bits 1 and 0 of six lane bytes. -/
def loops (n : Nat) (pairs : List Nat) : Heard := some (chainBlock (byte n :: 0#8 :: pairs.map byte))

theorem test_reset_assert : attn (after .resetNAssert run) .a = true ∧ protectFail (after .resetNAssert run) = true := by
  decide +kernel
theorem test_reset_release : (after .resetNRelease run).psc.part = .loading := by decide +kernel
theorem test_restart_fall : laneAt (after .restartNFall changing) 2 = some (.closed, none) ∧
    (after .restartNFall changing).psc.startupKind = some .restarted := by decide +kernel
/-- STATUS: OK, then part state RUN (3) and no startup kind. -/
theorem test_status : ((replyOf (after (.status .a []) run) .a).getD []).take 4 = [0x10#8, 0#8, 3#8, 0#8] := by
  decide +kernel
/-- The first flag of the vector is bit 7 of the first byte. -/
theorem test_summary : replyOf (after (.summary .b []) (run.report flagPart)) .b =
    some ([0x11#8, 0#8, 0x80#8] ++ List.replicate 19 0#8) := by decide +kernel
/-- READ_LANE of lane 1: FIXED_RISING, LO, OPEN, RISING, no context. -/
theorem test_readLane : ((replyOf (after (.readLane .a [1#8]) run) .a).getD []).take 8 =
    [0x12#8, 0#8, 1#8, 0#8, 0#8, 1#8, 1#8, 0xFF#8] := by decide +kernel
/-- One section of 800 m, capacity 160 (0x00A0), CLEAR; two idle crossing points. -/
theorem test_readSections : replyOf (after (.readSections .a [2#8]) run) .a =
    some [0x13#8, 0#8, 2#8, 1#8, 2#8, 0#8, 0xA0#8, 0#8, 0#8, 0#8, 0#8, 0#8, 0#8, 0#8] := by decide +kernel
theorem test_readGantry_count : ((replyOf (after (.readGantry .a [4#8]) run) .a).getD []).take 6 =
    [0x14#8, 0#8, 4#8, 1#8, 0#8, 3#8] := by decide +kernel
theorem test_readContext_free : replyOf (after (.readContext .a [5#8]) run) .a = some [0x15#8, 0#8, 5#8, 0#8] := by
  decide +kernel
theorem test_readNode_clears : ((node? (after (.readNode .a [1#8])
    (withNode 1 (fun r => { r with busyExpired := true }) run)) 1).map (·.busyExpired)) = some false := by decide +kernel
theorem test_readClosures_none : replyOf (after (.readClosures .a []) run) .a = some [0x17#8, 0#8, 0#8] := by
  decide +kernel
theorem test_readOverlays_one : replyOf (after (.readOverlays .b []) (after (.raiseOverlay .a [1#8, 1#8]) run)) .b =
    some [0x18#8, 0#8, 1#8, 1#8, 1#8, 1#8, 0#8, 0#8, 0#8, 0#8] := by decide +kernel
theorem test_readInputs_lock : ((replyOf (after (.readInputs .a []) run) .a).getD []).take 4 =
    [0x19#8, 0#8, 0#8, 16#8] := by decide +kernel
theorem test_readService_none : replyOf (after (.readService .a []) run) .a = some [0x1A#8, 0#8, 0#8, 0#8] := by
  decide +kernel
/-- A CLOSED lane named enters CLEARING with no direction and a full hold timer (R89, R93). -/
theorem test_change_accepted : laneAt changing 2 = some (.clearing, none) ∧
    (lane? changing 2).map (·.holdRemaining) = some 144000 := by decide +kernel
theorem test_change_closing : laneAt (after (.change .a [1#8, 1#8, 3#8]) run) 1 = some (.closing, some .rising) ∧
    (head? (after (.change .a [1#8, 1#8, 3#8]) run) 2 1 .rising).map (·.intended) = some .cross := by decide +kernel
theorem test_cancel : laneAt (after (.cancel .b [0#8]) changing) 2 = some (.closed, none) := by decide +kernel
theorem test_cancel_range : replyOf (after (.cancel .b [6#8]) changing) .b = some [0x21#8, 2#8] := by decide +kernel
theorem test_hold : (after (.hold .b []) run).plan.hold = ⟨false, true, []⟩ := by decide +kernel
theorem test_resume_keeps_inputs : (after (.resume .b [])
    { run with plan := { run.plan with hold := ⟨true, false, [1]⟩ } }).plan.hold = ⟨false, false, [1]⟩ := by decide +kernel
theorem test_allowReversal_refused : replyOf (after (.allowReversal .b [])
    (after (.raiseOverlay .a [1#8, 1#8]) run)) .b = some [0x24#8, 3#8] := by decide +kernel
/-- A span at 1000 to 1100 on lane 1 is protected by the head at 500, whose lead head is the one at 0 (R49, R55). -/
theorem test_closeSpan : ((after (.closeSpan .a [1#8, 3#8, 0xE8#8, 4#8, 0x4C#8]) run).obstructions.map
    (fun o => (o.protecting, o.leads))) = [(some 2, [1])] := by decide +kernel
theorem test_reopenSpan_notFound : replyOf (after (.reopenSpan .a [0#8]) run) .a = some [0x26#8, 14#8] := by
  decide +kernel
/-- A zone stop over 500 to 1500 crosses the rising heads at 0, 500 and 1500 (R51). -/
theorem test_raiseOverlay : ((after (.raiseOverlay .a [1#8, 1#8]) run).heads.filter
    (fun h => decide (h.intended ≠ .cross))).map (fun h => (h.gantry, h.lane)) = [] := by decide +kernel
theorem test_releaseOverlay : (after (.replySent .a) (after (.raiseOverlay .a [2#8, 1#8]) run)).store.overlays.length = 1 ∧
    (after (.releaseOverlay .b [2#8, 1#8]) (after (.raiseOverlay .a [2#8, 1#8]) run)).store.overlays = [] := by
  decide +kernel
theorem test_restoreSweep : sectionAt (after (.restoreSweep .a [2#8, 0#8, 1#8])
    (withSection 2 0 (fun x => { x with state := .disturbed, occupancy := 4 }) run)) 2 0 =
    some (0, .prepared false) := by decide +kernel
theorem test_restoreDirect : sectionAt (after (.restoreDirect .a [2#8, 0#8, 2#8])
    (withSection 2 0 (fun x => { x with state := .disturbed, occupancy := 4 }) run)) 2 0 =
    some (4, .restorePending .a 60 0) := by decide +kernel
theorem test_confirm_same_link : replyOf (after (.confirmRestore .a [2#8, 0#8])
    (withSection 2 0 (fun x => { x with state := .restorePending .a 5 0 }) run)) .a = some [0x2A#8, 11#8] := by
  decide +kernel
theorem test_service : (after (.service .b [4#8, 2#8]) run).chain.queue = [⟨.b, 4, .probeNow, false⟩] := by
  decide +kernel
theorem test_service_range : replyOf (after (.service .b [5#8, 2#8]) run) .b = some [0x2B#8, 2#8] := by decide +kernel
theorem test_resync : proofAt (after (.resync .a []) run) 2 1 .rising = some .unknown := by decide +kernel
theorem test_resend_one_gantry : proofAt (after (.resend .a [2#8]) run) 2 1 .rising = some .unknown ∧
    proofAt (after (.resend .a [2#8]) run) 3 1 .rising = some .proven := by decide +kernel
theorem test_enterConfig_refused : replyOf (after (.enterConfig .a []) run) .a = some [0x30#8, 3#8] := by decide +kernel
theorem test_reload_waits : (after (.reload .a []) run).psc.part = .run ∧
    (after (.replySent .a) (after (.reload .a []) run)).psc.part = .loading := by decide +kernel
theorem test_restart_waits : (after (.replySent .a) (after (.restart .a []) run)).psc.part = .startup := by
  decide +kernel
theorem test_unknown_code : replyOf (after (.unknownRequestCode .a [0x7F#8, 1#8]) run) .a = some [0x7F#8, 1#8] := by
  decide +kernel
theorem test_overrun : ((after (.overrun .a [0x10#8]) (after (.status .a []) run)).unit .a).overrun = true := by
  decide +kernel
theorem test_discard : ((after (.linkFrameDiscard .a [.byte 0xA5#8, .byte 0#8]) run).unit .a).rx = Receiver.idle := by
  decide +kernel
theorem test_gap_late_start : ((after (.linkGapTimeout .a [.byte 0xA5#8] (.byte 0xA5#8)) run).unit .a).rx.phase =
    .awaitLength := by decide +kernel
theorem test_contact_pending : ((after (.einContactChange 0 .closed)
    { run with inputs := run.inputs.map (fun r => { r with pending := 9 }) }).inputs[0]?).map (·.pending) = some 0 := by
  decide +kernel
/-- A zone stop's level becomes active: the overlay is raised and the inhibit set (R122, R124). -/
theorem test_filtered_stop : let s := after (.filteredLevelChange 0) { after (.einContactChange 0 .closed) run with
      inputs := run.inputs.map (fun r => { r with pending := 50 }) }
    s.plan.inhibit = true ∧ s.store.overlays = [⟨.zone 1, false, false, [⟨0, true⟩]⟩] := by decide +kernel
theorem test_frame_start : (after .chainFrameStart (atSlot 7 run)).chain.lastEnded = some 0 ∧
    ((after .chainFrameStart (atSlot 7 run)).chain.frame.map (fun f => (f.kind, f.header))) =
      some (.drive, chainBlock [0xC3#8, 0#8, 2#8]) := by decide +kernel
/-- A mismatch takes a PROVEN head to AWAITING with debounce 1 (R72). -/
theorem test_window_mismatch : proofAt (after (.nodeReplyWindowEnd 2
    (ready 2 [0, 2, 2, 0, 0, 0, 2, 2, 1, 0, 0, 0]) none) (atSlot 2 run)) 2 1 .rising = some (.awaiting .one) := by decide +kernel
/-- A vehicle rising over station 0 of lane 2 stands on loop B alone. -/
def leaving (s : State) : State :=
  { s with count := { s.count with crossings := s.count.crossings.map (fun c =>
    if c.station = 0 ∧ c.lane = 2 then { c with phase := .r3, accepted := ⟨false, true⟩ } else c) } }

/-- A vehicle rising over station 0 of lane 2, from R3: section (2, 0) gains it (R22, R26). -/
theorem test_window_passage : sectionAt (after (.nodeReplyWindowEnd 5 (loops 5 [0, 0, 0, 0, 0, 0]) none)
    (atSlot 5 (leaving run))) 2 0 =
    some (1, .occupied) := by decide +kernel
theorem test_busy_expiry : ((node? (after (.busyExpiry 2 (some (chainBlock [2#8, 1#8])) none)
    (atSlot 2 (withNode 2 (fun r => { r with busyRun := 249 }) run))) 2).map (fun r => (r.health, r.busyExpired))) =
    some (.lost, true) := by decide +kernel
/-- A LOST node whose flag READ_NODE cleared, its busy run at 250: the next BUSY reply sets the flag again (R197). -/
theorem test_busy_expiry_again :
    let s := withNode 2
      (fun r => { r with health := .lost, busyRun := 250, busyExpired := true }) run
    let t := after (.readNode .a [2#8]) s
    (node? t 2).map (·.busyExpired) = some false ∧
      (node? (after (.busyExpiry 2 (some (chainBlock [2#8, 1#8])) none) (atSlot 2 t)) 2).map
        (fun r => (r.health, r.busyExpired)) = some (.lost, true) := by decide +kernel
theorem test_node_lost : proofAt (after (.nodeLost 2 none none)
    (atSlot 2 (withNode 2 (fun r => { r with health := .suspect, missRun := 24 }) run))) 2 1 .rising =
    some (.failed .node) := by
  decide +kernel
theorem test_node_suspect : ((node? (after (.nodeSuspect 2 none none)
    (atSlot 2 (withNode 2 (fun r => { r with missRun := 2 }) run))) 2).map (·.health)) = some .suspect := by decide +kernel
/-- The reply that makes the node GOOD proves its heads at once (R76). -/
theorem test_node_recovered : proofAt (after (.nodeRecovered 2 normal2 normal2)
    { atSlot 2 (withNode 2 (fun r => { r with health := .lost, dataRun := 49 }) run) with
      heads := run.heads.map (fun h => if h.gantry = 2 then loseHead h else h) }) 2 1 .rising = some .proven := by
  decide +kernel
theorem test_proof_timeout : proofAt (after (.proofTimeout 2 1 .rising
    (ready 2 [0, 2, 2, 0, 0, 0, 2, 2, 1, 0, 0, 0]) none)
    (atSlot 2 (withHead 2 1 .rising (fun h => { h with proof := .unknown, counter := 9 }) run))) 2 1 .rising =
    some (.failed .mismatch) := by decide +kernel
theorem test_recovery_run : proofAt (after (.recoveryRunComplete 2 1 .rising normal2 none)
    (atSlot 2 (withHead 2 1 .rising (fun h => { h with proof := .failed .lamp, counter := 24 }) run))) 2 1 .rising =
    some .proven := by decide +kernel
/-- The falling head of lane 1 lights an arrow against its rising invitation: lane 1 trips (R109). -/
theorem test_wrong_arrow :
    let reply := ready 2 [1, 2, 2, 0, 0, 0, 1, 2, 1, 0, 0, 0]
    let s := after (.wrongArrow 2 1 .falling reply none) (atSlot 2 (withHead 2 1 .falling (fun h => { h with wrongRun := 2 }) run))
    laneAt s 1 = some (.closed, none) ∧ protectFail s = true := by decide +kernel
theorem test_restore_window : sectionAt (after (.restoreWindowExpiry 2 0)
    (withSection 2 0 (fun x => { x with occupancy := 1, state := .restorePending .b 0 0 }) run)) 2 0 =
    some (1, .disturbed) := by decide +kernel
theorem test_service_slot : ((after .serviceSlotStart (atSlot 7 (after (.service .a [2#8, 1#8]) run))).chain.frame.map
    (·.command)) = some (chainBlock [2#8, 1#8]) := by decide +kernel
theorem test_service_complete : (after (.serviceComplete none none)
    (after .serviceSlotStart (atSlot 7 (after (.service .a [2#8, 1#8]) run)))).chain.resultA =
    some ⟨2, .identify, .noReply, 0, none, []⟩ := by decide +kernel
/-- The count of 250 ends STARTUP with the silent nodes LOST (R168). -/
theorem test_startup_timeout : let s := after (.startupTimeout none none) { loaded with
      psc := { loaded.psc with startupFrames := 249 }, chain := { loaded.chain with
        frame := some ⟨0, .hold, [], 6, [], false, false⟩ } }
    s.psc.part = .run ∧ (node? s 1).map (·.health) = some .lost := by decide +kernel
/-- The hold timer runs out with every section CLEAR: lane 2 goes through CLEARED into OPENING_BODY falling. -/
theorem test_hold_timer : laneAt (after (.holdTimerExpiry 2) runOut) 2 = some (.openingBody, some .falling) := by
  decide +kernel
theorem test_clearing_timeout : ((lane? (after (.clearingTimeout 2)
    (withLane 2 (fun r => { r with clearingTime := some 900 }) changing)) 2).map (·.overdue)) = some true := by
  decide +kernel
theorem test_attempt_start : (after .cfgAttemptStart State.reset).loader.phase = .reading := by decide
theorem test_idle_timeout : (after .cfgIdleTimeout
    { State.reset with loader := { Loader.begin with waitMs := 10 } }).loader.failed = 1 := by decide
theorem test_retry_due : (after .cfgRetryDue
    { State.reset with loader := { Loader.begin with phase := .waiting, failed := 1, waitMs := 10 } }).loader.phase =
    .due := by decide
theorem test_fourth_failure : (after .memoryNotAcknowledged
    { State.reset with loader := { Loader.begin with phase := .reading, failed := 3 } }).psc =
    ⟨.fault, none, 0, ⟨.noAck, .unset, none⟩⟩ := by decide

/-- The image body of the small bore, written from the layout of chapter 10. -/
def body : List Byte :=
  [3#8, 0#8, 0#8, 1#8, 0x2C#8, 5#8, 20#8, 30#8, 3#8, 0x84#8, 0#8, 60#8, 10#8, 2#8] ++
    [0#8, 0#8, 2#8, 0#8, 1#8, 1#8] ++
    [4#8, 0#8, 0#8, 0#8, 0#8, 7#8, 6#8, 0#8, 1#8, 0xF4#8, 1#8, 7#8, 7#8, 6#8, 1#8] ++
    [5#8, 0xDC#8, 1#8, 7#8, 7#8, 2#8, 1#8, 7#8, 0xD0#8, 2#8, 7#8, 0#8, 6#8, 3#8] ++
    [2#8, 2#8, 0x58#8, 1#8, 5#8, 0x78#8, 1#8] ++ [1#8, 1#8, 0xF4#8, 5#8, 0xDC#8] ++
    [1#8, 1#8, 1#8, 1#8, 3#8, 0#8, 1#8, 0#8, 4#8, 0#8, 1#8, 0#8] ++
    (List.replicate 13 [0#8, 0#8, 1#8, 0#8]).flatten

/-- A loader reading a body with a CRC. -/
def reading (crc : BitVec 32) (bytes : List Byte) : State :=
  { State.reset with loader := ⟨.body, .reading, 0, 0, bytes.length + 16, crc, []⟩ }

theorem test_header : (after (.headerReadComplete ([0x54#8, 0x46#8, 0x34#8, 0x38#8, 0#8, 1#8, 0#8, 0x8D#8] ++
    [1#8, 2#8, 3#8, 4#8] ++ List.replicate 4 0#8))
    { State.reset with loader := { Loader.begin with phase := .reading } }).loader.crc = 0x01020304#32 := by decide +kernel
/-- The three passes accept it as the small bore (R164). -/
theorem test_body_passes : (rangePass body = .ok bore ∧ orderPass bore = .ok ()) ∧
    legalPattern bore (fixedPattern bore) = true := by decide +kernel
/-- A second section of 10 m is LOAD_ORDER for station 1 (R164). -/
theorem test_order_fault : orderPass { bore with stations := [⟨600, 1⟩, ⟨610, 1⟩] } =
    .error ⟨.order, .stations, some 1⟩ := by decide +kernel
/-- One byte more than the tables is LOAD_RANGE for the inputs table (R164). -/
theorem test_trailing_byte : rangePass (body ++ [0#8]) = .error ⟨.range, .inputs, none⟩ := by decide +kernel

/-! ### Witnesses: a state and operands for the hypotheses of every statement, each clause at its boundaries -/

/-- `run` with link A locked by EIN2. -/
def lockedA : State := { run with inputs := run.inputs.mapIdx (fun i r => { r with active := decide (i = 2) }) }

/-- The records of FAULT: no image (R165). -/
def faulted : State := inPart .fault State.reset

/-- Hypotheses of a request's admission, unfolded. -/
theorem adm {s : State} {l : Link} {code : Nat}
    (h : (s.pins.resetLow = false ∧ s.psc.part ≠ .loading ∧ (s.unit l).serving = false) ∧
      ((0x10 ≤ code ∧ code ≤ 0x1A) ∨ (0x20 ≤ code ∧ code ≤ 0x30 ∧ s.psc.part = .run) ∨
        (code = 0x31 ∧ (s.psc.part = .run ∨ s.psc.part = .config ∨ s.psc.part = .fault)) ∨ code = 0x32) ∧
      (code < 0x20 ∨ locked s l = false)) : Admitted s l code := h

/-- The places of the head records, in order. -/
def placesOf (hs : List HeadRecord) : List (Nat × Nat × Dir) := hs.map (fun h => (h.gantry, h.lane, h.face))

theorem headsPlaced_of {s : State} {b : Bore} (hb : s.image = some b)
    (h : placesOf s.heads = placesOf (formHeads b)) : HeadsPlaced s := by
  intro b' hb'
  obtain rfl : b = b' := Option.some.inj (hb.symm.trans hb')
  exact h

theorem planSound_run : PlanSound run := by unfold PlanSound LaneRecord.Agrees; decide +kernel

theorem planSound_changing : PlanSound changing := by unfold PlanSound LaneRecord.Agrees; decide +kernel

theorem planSound_runOut : PlanSound runOut := by unfold PlanSound LaneRecord.Agrees; decide +kernel

theorem planSound_cleared : PlanSound cleared := by unfold PlanSound LaneRecord.Agrees; decide +kernel

theorem witness_StepTakesFrontCommand :
    ({ run with pending := [.hold .a [], .resume .b []] } : State).pending = .hold .a [] :: [.resume .b []] := rfl

/-- A state in RUN, and one held in reset with and without a slot cut short. -/
theorem witness_EmptyQueueRunsClock : run.pending = [] ∧ (fullReset true run).pins.resetLow = true ∧
    (fullReset true run).pending = [] ∧ (fullReset true run).chain.frame.map (·.cut) = some true ∧
    (fullReset true (atSlot 7 run)).chain.frame = none := by decide +kernel

/-- Lane 2 CLEARING, a frame 5 ms off, EIN0 departed and a reply due on link A, each count just before its turn. -/
def waiting : State :=
  { withLane 2 (fun r => { r with holdMs := 99, holdRemaining := 100, clearMs := 999, clearingTime := some 899 })
      (withSection 1 0 (fun x => { x with state := .restorePending .a 1 999 }) (after (.change .a [1#8, 2#8, 2#8]) run)) with
    chain := { run.chain with untilNext := 5 }
    pins := { run.pins with contacts := List.replicate 16 Contact.closed }
    inputs := run.inputs.map (fun r => { r with pending := filterMs r.cfg.filter - 1 }) }

/-- A frame due, under way or cut short; and counts of time on the point of turning. -/
theorem witness_TimePasses : run.pending = [] ∧ run.pins.resetLow = false ∧
    (polls run = true ∧ run.image = some bore ∧ run.chain.untilNext = 0 ∧ run.chain.frame.map (·.cut) = some false) ∧
    ((after .restartNFall run).chain.frame.map (·.cut) = some true ∧ (after .restartNFall run).chain.untilNext = 0) ∧
    (waiting.chain.untilNext ≠ 0 ∧ (tick waiting).pending =
      [.filteredLevelChange 0, .filteredLevelChange 1, .filteredLevelChange 2] ++
        (List.range 13).map (fun i => .filteredLevelChange (i + 3)) ++
        [.holdTimerExpiry 2, .clearingTimeout 2, .restoreWindowExpiry 1 0]) ∧
    (State.reset.image = none ∧ State.reset.loader.phase = .due) := by decide +kernel

/-- A read under way when a restart abandons it: nothing of it stands, and both lines are released (log 43). -/
theorem test_restart_abandons_read :
    let s := after .restartNFall (after .cfgAttemptStart State.reset)
    s.loader = Loader.begin ∧ cfgBus s = some ⟨.released, .released⟩ := by decide +kernel

theorem witness_ResetAndRestartPins : (fullReset true run).pins.resetLow = true ∧
    ((inPart .config run).pins.resetLow = false ∧ (inPart .config run).psc.part = .config) ∧
    (faulted.pins.resetLow = false ∧ faulted.psc.part = .fault) ∧
    (State.reset.pins.resetLow = false ∧ State.reset.psc.part = .loading) ∧
    (run.pins.resetLow = false ∧ run.image = some bore ∧ run.psc.part = .run) ∧
    (loaded.pins.resetLow = false ∧ loaded.image = some bore ∧ loaded.psc.part = .startup) := by decide +kernel

/-- A STATUS reply due on link A when LOADING was entered from FAULT, a load that failed at once, and a second STATUS taken
while the first reply is still being sent. -/
def leftBehind : State := after (.status .a []) (inPart .fault (after .restartNFall (after (.status .a []) faulted)))

/-- A reply left that ends within the millisecond, and one due behind it at 10 ms. -/
theorem witness_TimePasses_replies :
    let s := leftBehind.setUnit .a { leftBehind.unit .a with
      leaving := [⟨[0x10#8], 10⟩], exchange := some ⟨[0x10#8], [0x10#8, 0#8], .unset, 10⟩ }
    s.pending = [] ∧ s.pins.resetLow = false ∧ s.image = none ∧ .replySent .a ∈ (tick s).pending ∧
      ((tick s).unit .a).leaving.map (·.age) = [11] ∧ ((tick s).unit .a).exchange.map (·.age) = some 10 := by
  decide +kernel

/-- Both replies are sent, the first in full before the second (R179). -/
theorem test_reply_left_in_full :
    ((leftBehind.unit .a).leaving.length, (leftBehind.unit .a).serving) = (1, true) ∧
      ((after (.replySent .a) leftBehind).unit .a).leaving = [] ∧
      ((after (.replySent .a) leftBehind).unit .a).serving = true ∧
      ((after (.replySent .a) (after (.replySent .a) leftBehind)).unit .a).serving = false := by decide +kernel

/-- CFG_SCL is held low and CFG_SDA released in STARTUP and RUN; both are released in CONFIG and FAULT (R161). -/
theorem test_cfg_bus : cfgBus loaded = some ⟨.low, .released⟩ ∧ cfgBus run = some ⟨.low, .released⟩ ∧
    cfgBus (inPart .config run) = some ⟨.released, .released⟩ ∧ cfgBus faulted = some ⟨.released, .released⟩ := by
  decide +kernel

theorem witness_SerialLines : (List.replicate 8 true).length = 8 ∧
    (((after (.status .a []) run).unit .a).exchange).isSome = true ∧ (run.unit .a).exchange = none ∧
    (run.unit .a).leaving = [] ∧ (leftBehind.unit .a).leaving ≠ [] ∧
    (State.reset.pins.resetLow = false ∧ State.reset.psc.part = .loading ∧ State.reset.loader.phase = .due ∧
      (after .cfgAttemptStart State.reset).psc.part = .loading ∧
      (after .cfgAttemptStart State.reset).loader.phase = .reading ∧ loaded.psc.part = .startup ∧
      run.psc.part = .run ∧ faulted.psc.part = .fault) ∧
    run.chain.frame.map (·.slot) = some 1 ∧ (atSlot 2 run).chain.frame.map (·.slot) = some 2 ∧
    loaded.chain.frame = none := by decide +kernel

/-- A lane in CLEARING, an ACTIVE and a DONE context, an OPEN lane. -/
theorem witness_RestartProperKeepsAndDrops : changing.pins.resetLow = false ∧ changing.image = some bore ∧
    changing.psc.part = .run ∧ laneAt changing 2 = some (.clearing, none) ∧
    laneAt changing 1 = some (.opened, some .rising) ∧ ((ctx? changing 0).map Ctx.isActive) = some true ∧
    (((ctx? (after (.cancel .b [0#8]) changing) 0).map Ctx.isDone)) = some true := by decide +kernel

theorem witness_LinkFrameRoundTrip : 1 ≤ [0x10#8].length ∧ (List.replicate 200 0#8).length ≤ 200 :=
  ⟨by decide, Nat.le_of_eq List.length_replicate⟩

theorem witness_PartialFramesDiscarded :
    ((⟨.awaitLength, 0, [], []⟩ : Receiver).phase = .awaitLength ∧ (0#8).toNat = 0 ∧ 200 < (201#8).toNat) ∧
    (⟨.payload, 4, [1#8], []⟩ : Receiver).phase ≠ .awaitStart ∧
    ((⟨.crc, 1, [0x10#8], [0#8]⟩ : Receiver).phase = .crc ∧
      [0#8, 0#8] ≠ be16 (crc16 (byte 1 :: [0x10#8])).toNat) ∧
    ((run.unit .a).rx.run [.byte 0xA5#8, .byte 201#8]).2 = (.discarded, false) ∧
    (((run.unit .a).rx.run [.byte 0xA5#8]).1.phase ≠ .awaitStart ∧
      ((run.unit .a).rx.run [.byte 0xA5#8]).2.2 = false) := by decide +kernel

/-- What waits for the last byte of a link's reply. -/
def actionOf (s : State) (l : Link) : Option ReplyAction := (s.unit l).exchange.map (·.action)

theorem witness_ServingEndsAndOverruns_reply :
    (((after (.status .a []) run).unit .a).serving = true ∧ actionOf (after (.status .a []) run) .a = some .unset) ∧
    (((after (.reload .a []) run).unit .a).serving = true ∧ actionOf (after (.reload .a []) run) .a = some .reload) ∧
    (((after (.restart .a []) run).unit .a).serving = true ∧
      actionOf (after (.restart .a []) run) .a = some .restart) ∧
    ((run.unit .a).leaving = [] ∧ (leftBehind.unit .a).serving = true ∧ (leftBehind.unit .a).leaving.length = 1) ∧
    ((after .restartNFall leftBehind).unit .a).exchange = none ∧
    ((after .restartNFall leftBehind).unit .a).leaving.length = 2 := by decide +kernel

theorem witness_ServingEndsAndOverruns_overrun :
    ((after (.status .a []) run).pins.resetLow = false ∧ (after (.status .a []) run).psc.part ≠ .loading ∧
      ((after (.status .a []) run).unit .a).serving = true) ∧
    (State.reset.pins.resetLow = false ∧ State.reset.psc.part = .loading) ∧
    Instr.request? (.hold .a []) = some ⟨.a, 0x22, []⟩ := by decide +kernel

theorem witness_RequestGating : (Ready loaded .a ∧ ¬ Gated 0x20 loaded.psc.part) ∧
    (Ready lockedA .a ∧ Gated 0x20 lockedA.psc.part ∧ locked lockedA .a = true) ∧
    (Admitted run .a 0x20 ∧ BadLength 0x20 [] ∧ BadLength 0x21 [] ∧ BadLength 0x21 [0#8, 0#8]) ∧
    Instr.request? (.change .a []) = some ⟨.a, 0x20, []⟩ := by
  unfold Admitted Ready Gated BadLength fixedFields
  decide +kernel

theorem witness_RequestGating_unknown : Ready run .a ∧
    ∀ c ∈ [0x00, 0x0F, 0x1B, 0x1F, 0x2E, 0x2F, 0x33, 0xFF],
      ¬ (0x10 ≤ c ∧ c ≤ 0x1A) ∧ ¬ (0x20 ≤ c ∧ c ≤ 0x2D) ∧ ¬ (0x30 ≤ c ∧ c ≤ 0x32) := by
  unfold Ready
  decide +kernel

theorem witness_StatusAndSummary_status : Admitted run .a 0x10 ∧ Admitted faulted .b 0x10 ∧ run.image = some bore ∧
    faulted.image = none := by
  unfold Admitted Ready Gated
  decide +kernel

theorem witness_StatusAndSummary_summary : Admitted run .b 0x11 := adm (by decide +kernel)

theorem witness_ReadRoadRecords_lane : Admitted run .a 0x12 ∧ (lane? run (1#8).toNat).isSome = true ∧
    (lane? run (3#8).toNat).isSome = true := ⟨adm (by decide +kernel), by decide +kernel⟩

theorem witness_ReadRoadRecords_sections : Admitted run .a 0x13 ∧ run.image = some bore ∧ 1 ≤ (1#8).toNat ∧
    (3#8).toNat ≤ bore.lanes.length := ⟨adm (by decide +kernel), by decide +kernel⟩

theorem witness_ReadRoadRecords_gantry : Admitted run .a 0x14 ∧ run.image = some bore ∧ 1 ≤ (1#8).toNat ∧
    (4#8).toNat ≤ bore.gantries.length ∧ (node? run 1).isSome = true ∧ (node? run 4).isSome = true :=
  ⟨adm (by decide +kernel), by decide +kernel⟩

/-- A FREE, an ACTIVE and a DONE context. -/
theorem witness_ReadContextStoresAndInputs_context : Admitted run .b 0x15 ∧ ctx? run 5 = some .free ∧
    Admitted changing .b 0x15 ∧ (ctx? changing 0).map Ctx.isActive = some true ∧
    (ctx? (after (.cancel .b [0#8]) changing) 0).map Ctx.isDone = some true :=
  ⟨adm (by decide +kernel), by decide +kernel, adm (by decide +kernel), by decide +kernel⟩

theorem witness_ReadRoadRecords_node : Admitted run .a 0x16 ∧ (6#8).toNat ≤ 68 ∧ (node? run 6).isSome = true ∧
    (node? (withNode 6 (fun r => { r with busyExpired := true }) run) 6).map (·.busyExpired) = some true :=
  ⟨adm (by decide +kernel), by decide +kernel⟩

theorem witness_ReadContextStoresAndInputs_stores : Admitted run .a 0x17 ∧ Admitted run .b 0x18 :=
  ⟨adm (by decide +kernel), adm (by decide +kernel)⟩

theorem witness_ReadContextStoresAndInputs_inputs : Admitted run .a 0x19 ∧ Admitted lockedA .a 0x1A :=
  ⟨adm (by decide +kernel), adm (by decide +kernel)⟩

/-- What does not exist: nothing in FAULT; in RUN the numbers past the last, and 0. -/
theorem witness_ReadsOfAbsentAreRange :
    (Admitted faulted .a 0x12 ∧ lane? faulted 1 = none ∧ faulted.image = none ∧ node? faulted 1 = none) ∧
    (∀ code ∈ [0x12, 0x13, 0x14, 0x15, 0x16], Admitted run .a code) ∧
    (lane? run 4 = none ∧ lane? run 0 = none ∧ node? run 7 = none ∧ node? run 0 = none) ∧
    run.image = some bore ∧ (bore.lanes.length < (4#8).toNat ∧ bore.gantries.length < (5#8).toNat) ∧
    run.plan.contexts.length = 6 ∧ 5 < (6#8).toNat := by
  unfold Admitted Ready Gated
  decide +kernel

/-- Where no context holds an entry, a lane has one committed direction at most. -/
theorem targetsAgree_of_empty {s : State}
    (h : (s.plan.contexts.all fun c => match c with
      | .active x => x.entries.isEmpty
      | _ => true) = true) : Laws.TargetsAgree s := by
  intro k _ x _ hk _ e he
  have := List.all_eq_true.mp h _ (List.mem_of_getElem? hk)
  simp [List.isEmpty_iff.mp this] at he

theorem targetsAgree_run : Laws.TargetsAgree run := targetsAgree_of_empty (by decide +kernel)

/-- Lanes 1 and 2 named, OPEN and CLOSED, to be CLOSED and OPEN falling. -/
def twoPairs : List (Nat × Target) := [(1, .closed), (2, .opened .falling)]

/-- After entry to RUN no context holds a lane. -/
theorem not_held_run (lane : Nat) : ¬ Held run lane := by
  rintro ⟨k, hk, h⟩
  have h6 : run.plan.contexts.length = 6 := by decide +kernel
  have none : ∀ k ∈ List.range 6, heldLanes run k = [] := by decide +kernel
  simp [none k (List.mem_range.mpr (h6 ▸ hk))] at h

/-- An OPEN and a CLOSED lane named together; the committed pattern is none, FALLING, FALLING. -/
theorem witness_ChangeAccepted : (PlanSound run ∧ Admitted run .a 0x20 ∧ run.image = some bore) ∧
    (∀ p ∈ [((1#8 : Byte), (3#8 : Byte)), (2#8, 2#8)], 1 ≤ p.2.toNat ∧ p.2.toNat ≤ 3 ∧ ¬ Held run p.1.toNat ∧
      (lane? run p.1.toNat).isSome = true) ∧
    (laneAt run 1 = some (.opened, some .rising) ∧ laneAt run 2 = some (.closed, none)) ∧ run.plan.inhibit = false ∧
    (∃ pattern, PatternOf run (CommittedDir run twoPairs) pattern ∧ Legal bore pattern) ∧ allocation run = some 0 := by
  refine ⟨⟨planSound_run, adm (by decide +kernel), by decide +kernel⟩,
    fun p hp => ?_, by decide +kernel, by decide +kernel,
    ⟨_, Laws.committed_patternOf targetsAgree_run (by simp [twoPairs]), ?_⟩, by decide +kernel⟩
  · obtain rfl | rfl : p = (1#8, 3#8) ∨ p = (2#8, 2#8) := by simpa using hp
    all_goals exact ⟨by decide, by decide, not_held_run _, by decide +kernel⟩
  · exact (Laws.legalPattern_iff _ _).mp (by decide +kernel)

/-- FORMAT: no pair, five pairs, a short frame, a lane twice. -/
theorem witness_ChangeChecksInOrder_format : Admitted run .a 0x20 ∧
    (∀ fields ∈ [[0#8], 5#8 :: List.replicate 10 1#8, [1#8, 2#8], [2#8, 1#8, 3#8, 1#8, 3#8]],
      changeFormatOk fields = false) := ⟨adm (by decide +kernel), by decide +kernel⟩

/-- RANGE, NOT_TIDAL, BUSY, NO_CHANGE and INHIBITED, each reached past the checks before it. -/
theorem witness_ChangeChecksInOrder :
    let locked := { run with plan := { run.plan with inhibit := true } }
    let refusals := [(run, [1#8, 4#8, 3#8], Status.range), (run, [1#8, 2#8, 4#8], .range), (run, [1#8, 1#8, 2#8], .notTidal),
      (changing, [1#8, 2#8, 3#8], .busy), (run, [1#8, 2#8, 3#8], .noChange), (locked, [1#8, 2#8, 1#8], .inhibited)]
    ∀ x ∈ refusals, Admitted x.1 .b 0x20 ∧ x.1.image = some bore ∧ changeChecks x.1 bore x.2.1 = .error x.2.2 := by
  unfold Admitted Ready Gated
  decide +kernel

/-- Lane 2 RISING beside lane 3 FALLING under a buffer; and a legal pattern with every context ACTIVE. -/
theorem witness_ChangeChecksInOrder_pattern :
    let buffered := { run with image := some { bore with bufferRequired := true } }
    let full := { run with plan := { run.plan with contexts := List.replicate 6 (.active ⟨.a, [], .unset, 0⟩) } }
    (Admitted buffered .a 0x20 ∧ ∃ pattern, PatternOf buffered (CommittedDir buffered [(2, .opened .rising)]) pattern ∧
      ¬ Legal { bore with bufferRequired := true } pattern) ∧
    (Admitted full .a 0x20 ∧ (∀ c ∈ full.plan.contexts, c.isActive = true) ∧
      ∃ pattern, PatternOf full (CommittedDir full [(2, .opened .rising)]) pattern ∧ Legal bore pattern) := by
  refine ⟨⟨adm (by decide +kernel), _, Laws.committed_patternOf (targetsAgree_of_empty (by decide +kernel)) (by decide),
    fun h => ?_⟩, adm (by decide +kernel), by decide +kernel, _,
    Laws.committed_patternOf (targetsAgree_of_empty (by decide +kernel)) (by decide), ?_⟩
  · exact absurd ((Laws.legalPattern_iff _ _).mpr h) (by decide +kernel)
  · exact (Laws.legalPattern_iff _ _).mp (by decide +kernel)

theorem witness_ChangeAccepted_allocation : run.plan.contexts.length = 6 ∧ run.plan.pointer < 6 ∧
    allocation run = some 0 := by decide +kernel

/-- A context in CLEARING, one with a lane in OPENING_BODY, a number past 5 and a FREE context. -/
theorem witness_CancelReturnsLanes : PlanSound changing ∧ Admitted changing .b 0x21 ∧ 5 < (6#8).toNat ∧
    ctx? changing 5 = some .free ∧ heldLanes changing 0 = [2] ∧ laneAt changing 2 = some (.clearing, none) ∧
    heldLanes (withLane 2 (fun r => { r with phase := .openingBody }) changing) 0 = [2] :=
  ⟨planSound_changing, adm (by decide +kernel), by decide +kernel⟩

theorem witness_HoldResumeAndInhibit_hold : run.image = some bore ∧ Admitted run .a 0x22 ∧ Admitted run .b 0x23 ∧
    ({ run.plan with hold := ⟨true, false, [1]⟩ } : LanePlan).hold.inputs ≠ [] :=
  ⟨by decide +kernel, adm (by decide +kernel), adm (by decide +kernel), by decide⟩

theorem witness_HoldResumeAndInhibit_inhibit : Admitted run .a 0x24 ∧ run.store.overlays = [] ∧
    Admitted (after (.raiseOverlay .a [1#8, 1#8]) run) .b 0x24 ∧
    (after (.raiseOverlay .a [1#8, 1#8]) run).store.overlays ≠ [] := by
  unfold Admitted Ready Gated
  decide +kernel

/-- A hold timer runs out under a hold: the command completes, the hold stays, and the lane is CLEARING. -/
theorem witness_NoAdvanceUnderHold : let s := { runOut with plan := { runOut.plan with hold := ⟨true, false, []⟩ } }
    exec (.holdTimerExpiry 2) s = .next (after (.holdTimerExpiry 2) s) ∧ s.plan.hold.active = true ∧
      (after (.holdTimerExpiry 2) s).plan.hold.active = true ∧ laneAt s 2 = some (.clearing, none) ∧
      laneAt (after (.holdTimerExpiry 2) s) 2 = some (.clearing, none) :=
  ⟨rfl, by decide +kernel⟩

/-- Lane 2 in OPENING_ENTRY toward FALLING with its heads settled, under a hold. -/
def enteringHeld : State :=
  let s := withLane 2 (fun r => { r with phase := .openingEntry, direction := some .falling }) changing
  { s with plan := { s.plan with hold := ⟨true, false, []⟩ } }

/-- A HOLD from the other link: the plan is sound, the command completes, and the lane stays in OPENING_ENTRY. -/
theorem witness_NoAdvanceUnderHold_opening : PlanSound enteringHeld ∧
    exec (.hold .b []) enteringHeld = .next (after (.hold .b []) enteringHeld) ∧
    entryDone enteringHeld bore 2 .falling = true ∧ enteringHeld.plan.hold.active = true ∧
    (after (.hold .b []) enteringHeld).plan.hold.active = true ∧
    laneAt enteringHeld 2 = some (.openingEntry, some .falling) ∧
    laneAt (after (.hold .b []) enteringHeld) 2 = some (.openingEntry, some .falling) := by
  refine ⟨?_, rfl, by decide +kernel⟩
  unfold PlanSound LaneRecord.Agrees
  decide +kernel

/-- The opening step with its four conditions met, and with the inhibit set. -/
theorem witness_OpeningStepAndAdvances : PlanSound cleared ∧ cleared.image = some bore ∧ heldLanes cleared 0 = [2] ∧
    laneAt cleared 2 = some (.cleared, some .falling) ∧
    (∃ body, ctx? cleared 0 = some (.active body) ∧
      ∃ pattern, PatternOf cleared (OpenedDir body) pattern ∧ Legal bore pattern) ∧
    laneAt (examineCtx bore 0 cleared).1 2 = some (.openingBody, some .falling) ∧
    (examineCtx bore 0 { cleared with plan := { cleared.plan with inhibit := true } }).2 = false := by
  refine ⟨planSound_cleared, by decide +kernel, by decide +kernel, by decide +kernel,
    ⟨⟨.a, [⟨2, none, .opened .falling, true, some [0]⟩], .unset, 0⟩, by decide +kernel, _,
      Laws.opened_patternOf (by decide), (Laws.legalPattern_iff _ _).mp (by decide +kernel)⟩, by decide +kernel,
    by decide +kernel⟩

/-- Lane 1 closing, its entry head at gantry 2 and lead head at gantry 1 written CROSS. -/
def closing : State := after (.change .a [1#8, 1#8, 3#8]) run

/-- Lane 1 closing with its heads proven CROSS. -/
def closed1 : State :=
  { closing with heads := closing.heads.map (fun h => { h with reported := h.intended.aspect, proof := .proven }) }

/-- Lane 1 closing beside lane 2 open RISING, its lead head at gantry 1 FAILED showing DIVERT_HI, and its entry head at
gantry 2 one mismatch from FAILED. -/
def losing : State :=
  quiet (withHead 2 1 .rising (fun h => { h with proof := .awaiting .two, reported := .dark })
    (settled true (withHead 1 1 .rising (fun h => { h with proof := .failed .mismatch })
      (settled true (after (.change .a [1#8, 1#8, 3#8])
        (withLane 2 (fun r => { r with phase := .opened, direction := some .rising }) run))))))

/-- The entry head fails with the lead head FAILED: the closure is handed without a protecting head, and then, the lead
head written CROSS, with that one. The wait reason is PROTECTION in between, which CONTEXTS records (R45, R80, R102). -/
theorem test_wait_formed_between :
    let t := after (.nodeReplyWindowEnd 2 normal2 none) (atSlot 2 losing)
    let wait := fun s => match ctx? s 0 with
      | some (.active x) => some x.wait
      | _ => none
    wait losing = some .settling ∧ wait t = some .settling ∧ losing.linkA.vector.getLsbD (flagContext 0) = false ∧
      t.linkA.vector.getLsbD (flagContext 0) = true := by decide +kernel

/-- Lane 2 in the phase of an opening, toward FALLING. -/
def openingIn (p : Phase) : State :=
  withLane 2 (fun r => { r.leaveClearing with phase := p, direction := some .falling }) changing

/-- Each advance taken where its conditions hold: CLOSING to CLEARING, CLEARING to CLEARED, and both opening phases. -/
theorem witness_OpeningStepAndAdvances_own :
    (laneAt closing 1 = some (.closing, some .rising) ∧
      laneAt (examineCtx bore 0 closed1).1 1 = some (.clearing, some .rising)) ∧
    laneAt (examineCtx bore 0 (withLane 2 (fun r => { r with holdRunning := false }) runOut)).1 2 =
      some (.cleared, some .falling) ∧
    laneAt (examineCtx bore 0 (openingIn .openingBody)).1 2 = some (.openingEntry, some .falling) ∧
    laneAt (examineCtx bore 0 (openingIn .openingEntry)).1 2 = some (.opened, some .falling) := by decide +kernel

/-- `changing` under a hold. -/
def holding : State := after (.hold .b []) changing

theorem planSound_holding : PlanSound holding := by unfold PlanSound LaneRecord.Agrees; decide +kernel

/-- An ACTIVE context waits with HOLD. -/
theorem witness_ExaminedKept : PlanSound holding ∧ HeadsPlaced holding ∧ Examined holding ∧ holding.psc.part = .run ∧
    (ctx? holding 0).map Ctx.isActive = some true ∧ step holding = .next (tick holding) := by
  have held : holding.plan.hold.active = true := by decide +kernel
  have waits : (holding.plan.contexts.all fun c => match c with
      | .active x => decide (x.wait = .hold)
      | _ => true) = true := by decide +kernel
  refine ⟨planSound_holding, headsPlaced_of (b := bore) (by decide +kernel) (by decide +kernel), fun _ b _ k body hk => ⟨⟨fun _ => ?_, fun h => ?_, fun h => ?_⟩, fun h => ?_⟩,
    by decide +kernel, by decide +kernel, rfl⟩
  · simpa using List.all_eq_true.mp waits _ (List.mem_of_getElem? hk)
  all_goals exact absurd (held.symm.trans h) (by decide)

/-- CLEAR sections without a hold, the same under a hold, and a DISTURBED section. -/
theorem witness_ClearingTimers_hold : PlanSound runOut ∧ runOut.image = some bore ∧
    (lane? runOut 2).map (fun r => (r.phase, r.holdRunning, r.holdRemaining)) = some (.clearing, true, 0) ∧
    runOut.plan.hold.active = false ∧ (laneSections runOut bore 2).map (·.state) = [.clear] ∧
    ({ runOut with plan := { runOut.plan with hold := ⟨true, false, []⟩ } } : State).plan.hold.active = true ∧
    (laneSections (withSection 2 0 SectionRecord.disturb runOut) bore 2).map (·.state) = [.disturbed] :=
  ⟨planSound_runOut, by decide +kernel⟩

theorem witness_ClearingTimers_overdue :
    (lane? (withLane 2 (fun r => { r with clearingTime := some 900 }) changing) 2).map
      (fun r => (r.phase, r.clearingTime)) = some (.clearing, some 900) ∧ changing.image = some bore ∧
    bore.clearingTimeout ≤ 900 := by decide +kernel

/-- A hold timer 1 ms before its end, one stopped, a lane OPEN and one absent; a clearing time one second short, and none. -/
theorem witness_ClearingTimers_early :
    (lane? (withLane 2 (fun r => { r with holdRemaining := 100 }) changing) 2).map
      (fun r => (r.phase, r.holdRunning, r.holdRemaining)) = some (.clearing, true, 100) ∧
    (lane? (withLane 2 (fun r => { r with holdRunning := false }) changing) 2).map (·.holdRunning) = some false ∧
    laneAt run 1 = some (.opened, some .rising) ∧ lane? run 4 = none ∧ lane? run 0 = none ∧
    (lane? (withLane 2 (fun r => { r with clearingTime := some 899 }) changing) 2).map (·.clearingTime) =
      some (some 899) ∧ 899 < bore.clearingTimeout ∧ (lane? run 2).map (·.clearingTime) = some none := by decide +kernel

/-- A HOLD_TIMER_EXPIRY with 100 ms left and a CLEARING_TIMEOUT at 899 s of 900 change nothing (R94, R96). -/
theorem test_timers_early :
    after (.holdTimerExpiry 2) changing = changing ∧
    after (.clearingTimeout 2) (withLane 2 (fun r => { r with clearingTime := some 899 }) changing) =
      withLane 2 (fun r => { r with clearingTime := some 899 }) changing := by decide +kernel

/-- The reset state meets every invariant. -/
theorem witness_invariants_at_reset : OneWay State.reset ∧ QueueBound State.reset ∧ SectionsSound State.reset ∧
    OverlayInhibits State.reset ∧ PlanSound State.reset ∧ ClearedEmpty State.reset ∧ PatternSound State.reset ∧
    Derived State.reset ∧ Examined State.reset ∧ RunsInRange State.reset ∧
    FaultySound State.reset ∧ HeadsPlaced State.reset := by
  have bare : State.reset.image = none := rfl
  refine ⟨fun _ h => ?_, ⟨by decide, by decide⟩, by unfold SectionsSound SectionRecord.Sound; decide, fun h => absurd rfl h, ?_,
    fun l r h => ?_, fun b h => ?_, fun _ b h => ?_, fun _ b h => ?_, by unfold RunsInRange; decide, fun b h => ?_,
    fun b h => ?_⟩
  · obtain ⟨⟨h, m, _⟩, _⟩ := h
    exact absurd m (by simp [State.reset])
  · unfold PlanSound LaneRecord.Agrees
    decide
  · simp [lane?, from1, State.reset, LanePlan.formed] at h
  all_goals exact absurd (bare.symm.trans h) (by simp)

theorem witness_ClearedLanesStayEmpty : step State.reset = .next (tick State.reset) ∧
    laneAt cleared 2 = some (.cleared, some .falling) ∧
    (lane? cleared 2).map (·.context) = some (some 0) ∧ (laneSections cleared bore 2).map (·.state) = [.clear] :=
  ⟨rfl, by decide +kernel⟩

/-- Lane 1 RISING, lane 2 CLEARING from CLOSED, lane 3 FALLING. -/
theorem witness_PresentPatternLegalKept : PlanSound changing ∧ PatternSound changing ∧
    changing.plan.lanes.map standingDir = [some .rising, none, some .falling] ∧ step changing = .next (tick changing) := by
  refine ⟨planSound_changing, fun b hb => ?_, by decide +kernel, rfl⟩
  obtain rfl : bore = b := Option.some.inj hb
  exact ⟨(Laws.legalPattern_iff _ _).mp (by decide +kernel), (Laws.legalPattern_iff _ _).mp (by decide +kernel),
    by decide +kernel, by decide +kernel⟩

theorem witness_ClearHoldBounds : 0 < bore.crawl ∧ computedClearHold (span 200 60 30) < 30 * 1000 ∧
    (bore.minHold * 1000 ≤ computedClearHold bore ∧ computedClearHold bore ≤ 600000) ∧
    600000 < computedClearHold (span 2000 5 30) := by decide +kernel

theorem witness_PromotionFindsNearest : (bore.gantries.map (·.chainage)).Pairwise (· < ·) ∧
    (∀ g ∈ bore.gantries, g.chainage ≤ 8000) ∧ 2 ∈ faceHeads bore 1 .rising := by decide +kernel

/-- While lane 1 closes: LEAD in the window upstream of its entry head at 500 and at its lead head, BLOCKED there, EXIT
beyond; lane 3 CLEAR, lane 2 BLOCKED. Each phase, and each escape of a LEAD position. -/
theorem witness_ClassesAndAspects :
    let v := deriveView bore closing
    let u := deriveView bore (openingIn .openingBody)
    (from1 v.lanes 1).isSome = true ∧ (v.obstructions.map (fun o => (o.source, o.protecting, o.leads))) =
      [(.entry, some 2, [1])] ∧
    ([0, 199, 200, 499, 500, 501].map (classAt v 1 .rising)) = [.lead, .exit, .lead, .lead, .blocked, .exit] ∧
    classAt v 3 .falling 0 = .clear ∧ classAt v 2 .rising 0 = .blocked ∧
    ([6500, 6501].map (classAt u 2 .falling)) = [.blocked, .exit] ∧ aspectAt v 1 .rising 0 = .cross ∧
    (aspectAt { v with lanes := [closing, run, run].flatMap (fun s => (lane? s 1).toList) } 1 .rising 0 = .divertHi) := by
  decide +kernel

/-- Lane 1 closing, with its entry closure. -/
theorem witness_DerivedKept : PlanSound closing ∧ Derived closing ∧ closing.obstructions ≠ [] ∧
    step closing = .next (tick closing) := by
  refine ⟨by unfold PlanSound LaneRecord.Agrees; decide +kernel, fun _ b hb => ?_, by decide +kernel, rfl⟩
  obtain rfl : bore = b := Option.some.inj hb
  refine ⟨by decide +kernel, by decide +kernel, fun lane r hr => ?_⟩
  have flags : ∀ n < 4, (lane? closing n).all (fun r => !r.unprotRising && !r.unprotFalling) = true := by decide +kernel
  have small : lane < 4 := by
    simp only [lane?, from1] at hr
    split at hr
    · omega
    · have := (List.getElem?_eq_some_iff.mp hr).1
      have : closing.plan.lanes.length = 3 := by decide +kernel
      omega
  have set : ∀ o ∈ closing.obstructions, o.protecting ≠ none := by decide +kernel
  have mine := flags lane small
  simp only [hr, Option.all_some, Bool.and_eq_true, Bool.not_eq_true'] at mine
  exact ⟨⟨fun h => absurd (mine.1.symm.trans h) (by decide), fun ⟨o, ho, _, _, hp⟩ => absurd hp (set o ho)⟩,
    ⟨fun h => absurd (mine.2.symm.trans h) (by decide), fun ⟨o, ho, _, _, hp⟩ => absurd hp (set o ho)⟩⟩

/-- In the normal pattern each lane is invited at one end: lane 1 rising, lane 3 falling. -/
theorem witness_OneWayKept : OneWay run ∧ step run = .next (tick run) := by
  refine ⟨fun lane h => ?_, rfl⟩
  obtain ⟨⟨x, hx, hl, hf, hi⟩, y, hy, hl', hf', hi'⟩ := h
  have key : ∀ x ∈ run.heads, ∀ y ∈ run.heads, x.lane = y.lane → x.face = .rising → y.face = .falling →
      x.intended = .cross ∨ y.intended = .cross := by decide +kernel
  rcases key x hx y hy (hl.trans hl'.symm) hf hf' with h | h
  · exact hi h
  · exact hi' h

/-- A reply within the lamp limit, one above it and a mismatch; a counter at the proof timeout less one and at 24. -/
theorem witness_ProofTransitions :
    let h := { HeadRecord.formed 2 1 .rising .arrow with counter := 24 }
    Aspect.arrow = h.intended.aspect ∧ 2 ≤ bore.lampLimit ∧ bore.lampLimit < 3 ∧ Aspect.dark ≠ h.intended.aspect ∧
      h.counter + 1 = 25 ∧ ({ h with counter := 9 } : HeadRecord).counter + 1 = bore.proofTimeout ∧
      (proofTransition bore .arrow 2 { h with proof := .failed .lamp }).proof = .proven ∧
      (applyProbe true { h with proof := .failed (.probe false) }).proof = .failed (.probe true) := by decide

/-- What gantry 2's reply says of a head. -/
def repOf (s : State) (heard : Heard) (g lane : Nat) (d : Dir) : Option HeadReport :=
  match windowOutcome .gantry g heard none, head? s g lane d with
  | .valid x, some h => some (reportFor (headReports (probingNow bore s g) x) h)
  | _, _ => none

/-- A READY reply that probes and one that does not, and a FAULT and a BUSY one, for a GOOD and a SUSPECT gantry; no
ACTIVE context, and no head that enters or leaves FAILED. -/
theorem witness_GantryReplyTaken :
    let s := atSlot 2 run
    let u := withNode 2 (fun r => { r with health := .suspect }) s
    let fault := some (chainBlock ([2#8, 3#8, 0#8] ++ List.replicate 12 0#8))
    let busy := some (chainBlock [2#8, 1#8])
    (s.pins.resetLow = false ∧ s.psc.part = .run ∧ s.image = some bore ∧
      s.chain.frame.map (fun f => (f.slot, f.cut)) = some (2, false) ∧ 2 ≤ bore.gantries.length) ∧
    ((node? s 2).map (fun r => (r.node, r.kind, r.health)) = some (2, .gantry, .good) ∧
      (node? u 2).map (fun r => (r.node, r.kind, r.health, r.busyRun)) = some (2, .gantry, .suspect, 0)) ∧
    (windowOutcome .gantry 2 normal2 none = .valid ⟨.ready, false, [1, 2, 2, 0, 0, 0, 2, 2, 1, 0, 0, 0].map byte⟩ ∧
      windowOutcome .gantry 2 fault none = .valid ⟨.fault, false, List.replicate 12 0#8⟩ ∧
      windowOutcome .gantry 2 none busy = .valid ⟨.busy, false, []⟩) ∧
    (probeFlag bore .drive 1 2 = true ∧ probeFlag bore .drive 0 2 = false) ∧
    (∀ h ∈ s.heads, h.wrongRun ≤ 3) ∧
    ((∀ c ∈ s.plan.contexts, c.isActive = false) ∧ (∀ q ∈ s.heads, q.gantry = 2 → q.proof = .proven ∧ q.wrongRun = 0)) ∧
    (head? s 2 1 .rising).map (·.proof) = some .proven := by decide +kernel

/-- A head at the proof timeout less one, mismatched; and one at 24 of its recovery run, matched. -/
theorem witness_HeadWindowEvents :
    let s := atSlot 2 (withHead 2 1 .rising (fun h => { h with proof := .unknown, counter := 9 }) run)
    let u := atSlot 2 (withHead 2 1 .rising (fun h => { h with proof := .failed .mismatch, counter := 24 }) run)
    s.pins.resetLow = false ∧ s.psc.part = .run ∧ s.image = some bore ∧ s.chain.frame.map (·.slot) = some 2 ∧
      2 ≤ bore.gantries.length ∧ (node? s 2).map (fun r => (r.node, r.kind, r.health)) = some (2, .gantry, .good) ∧
      windowOutcome .gantry 2 normal2 none = .valid ⟨.ready, false, [1, 2, 2, 0, 0, 0, 2, 2, 1, 0, 0, 0].map byte⟩ ∧
      repOf s (ready 2 [0, 2, 2, 0, 0, 0, 2, 2, 1, 0, 0, 0]) 2 1 .rising = some ⟨.dark, 0, none⟩ ∧
      (head? s 2 1 .rising).map (fun h => (h.proof, h.intended, h.counter + 1)) =
        some (.unknown, .arrow, bore.proofTimeout) ∧
      repOf u normal2 2 1 .rising = some ⟨.arrow, 0, none⟩ ∧
      (head? u 2 1 .rising).map (fun h => (h.proof, h.intended, h.counter + 1)) =
        some (.failed .mismatch, .arrow, 25) := by decide +kernel

/-- A PROVEN head, one a reply short of its timeout or its run, and a wrong-arrow run of 1: no such consequence. -/
theorem witness_HeadWindowEvents_none :
    let s := atSlot 2 (withHead 2 1 .rising (fun h => { h with proof := .unknown, counter := 8 }) run)
    let u := atSlot 2 (withHead 2 1 .rising (fun h => { h with proof := .failed .mismatch, counter := 23 }) run)
    let w := atSlot 2 (withHead 2 1 .falling (fun h => { h with wrongRun := 1 }) run)
    let dark := ready 2 [0, 2, 2, 0, 0, 0, 2, 2, 1, 0, 0, 0]
    proofAt run 2 1 .rising = some .proven ∧ after (.proofTimeout 2 1 .rising dark none) s = s ∧
      after (.recoveryRunComplete 2 1 .rising normal2 none) u = u ∧
      after (.wrongArrow 2 1 .falling (ready 2 [1, 2, 2, 0, 0, 0, 1, 2, 1, 0, 0, 0]) none) w = w := by decide +kernel

/-- Lane 1, invited rising, trips on its falling head; lane 2, invited at neither end, does not. -/
theorem witness_WrongArrowTrips : PlanSound run ∧
    (let s := atSlot 2 (withHead 2 1 .falling (fun h => { h with wrongRun := 2 }) run)
    let heard := ready 2 [1, 2, 2, 0, 0, 0, 1, 2, 1, 0, 0, 0]
    s.pins.resetLow = false ∧ s.psc.part = .run ∧ s.image = some bore ∧ s.chain.frame.map (·.slot) = some 2 ∧
      (s.heads.filter (fun q => decide (q.gantry = 2) && (repOf s heard 2 q.lane q.face).any
        (fun rep => becomesWrongArrow q rep.aspect))) = (head? s 2 1 .falling).toList ∧
      (lane? s 1).isSome = true ∧ repOf s heard 2 1 .falling = some ⟨.arrow, 0, none⟩ ∧
      (head? s 2 1 .falling).map (fun h => (h.intended, h.wrongRun)) = some (.cross, 2) ∧
      (s.heads.any (fun h => decide (h.lane = 1 ∧ h.face = .rising ∧ h.intended ≠ .cross))) = true ∧
      (s.heads.any (fun h => decide (h.lane = 2 ∧ h.intended ≠ .cross))) = false) :=
  ⟨planSound_run, by decide +kernel⟩

/-- Gantry 2 LOST, its heads FAILED(NODE): a RESEND changes nothing but the unit that answers, a RESYNC leaves its heads
FAILED(NODE) (R81, R82). -/
theorem witness_ResyncResendDiscardProof_lost :
    let s := after (.nodeLost 2 none none)
      (atSlot 2 (withNode 2 (fun r => { r with health := .suspect, missRun := 24 }) run))
    Admitted s .a 0x2C ∧ Admitted s .a 0x2D ∧ nodeLost s 2 = true ∧ s.image = some bore ∧
      after (.resend .a [2#8]) s = s.answered .a 0x2D [2#8] .ok [] .unset ∧
      proofAt (after (.resync .a []) s) 2 1 .rising = some (.failed .node) ∧
      proofAt (after (.resync .a []) s) 3 1 .rising = some .unknown :=
  ⟨adm (by decide +kernel), adm (by decide +kernel), by decide +kernel⟩

theorem witness_ResyncResendDiscardProof : Admitted run .a 0x2C ∧ Admitted run .b 0x2D ∧ run.image = some bore ∧
    (0#8).toNat = 0 ∧ bore.gantries.length < (5#8).toNat ∧ 1 ≤ (1#8).toNat ∧ (4#8).toNat ≤ bore.gantries.length := by
  unfold Admitted Ready Gated
  decide +kernel

/-- RUN, CONFIG and both kinds of STARTUP poll; a state held in reset does not. A frame over, one in its first slot, and
none. -/
theorem witness_ChainFrameBegins : run.image = some bore ∧ polls run = true ∧
    (atSlot 7 run).chain.frame.map (fun f => (f.cut, f.slot)) = some (false, 4 + 2 + 1) ∧ run.chain.queue = [] ∧
    run.chain.frame.map (·.slot) = some 1 ∧ loaded.chain.frame = none ∧ polls (inPart .config run) = true ∧
    polls loaded = true ∧ loaded.psc.startupKind = some .fresh ∧
    (after .restartNFall run).psc.startupKind = some .restarted ∧
    polls { run with pins := { run.pins with resetLow := true } } = false := by decide +kernel

theorem witness_GantryCommandCarriesIntended : (from1 bore.gantries 2).isSome = true ∧
    (head? run 2 1 .rising).isSome = true ∧ head? run 1 1 .falling = none ∧ bore.gantries.length < 5 ∧
    6 ≤ bore.gantries.length + bore.stations.length := by decide +kernel

/-- A gantry and a station, with nothing heard; a first miss, the third and the twenty-fifth. -/
theorem witness_MissingReplies : run.pins.resetLow = false ∧ run.psc.part = .run ∧ run.image = some bore ∧
    (atSlot 2 run).chain.frame.map (fun f => (f.slot, f.cut)) = some (2, false) ∧
    (atSlot 5 run).chain.frame.map (fun f => (f.slot, f.cut)) = some (5, false) ∧ (windowOutcome .gantry 2 none none).isValid = false ∧
    (windowOutcome .station 5 none none).isValid = false ∧
    (node? run 2).map (fun r => (r.node, r.health, r.missRun)) = some (2, .good, 0) ∧
    (node? (withNode 2 (fun r => { r with missRun := 2 }) run) 2).map (fun r => (r.health, r.missRun)) =
      some (.good, 2) ∧
    (node? (withNode 5 (fun r => { r with health := .suspect, missRun := 24 }) run) 5).map
      (fun r => (r.health, r.missRun)) = some (.suspect, 24) ∧
    (crossing? run bore 0 2).map (·.faulty) = some false ∧ (sectionAt? run bore 2 0).isSome = true := by decide +kernel

/-- Heads and nodes in RUN, a wrong-arrow run and a busy run at their ends, and a window that ends. -/
theorem witness_RunsInRangeKept :
    let s := withNode 2 (fun r => { r with health := .lost, busyRun := 250 })
      (withHead 2 1 .falling (fun h => { h with wrongRun := 3 }) (atSlot 2 run))
    let u := { s with pending := [.nodeReplyWindowEnd 2 normal2 none] }
    RunsInRange u ∧ step u = .next (after (.nodeReplyWindowEnd 2 normal2 none) s) := by
  refine ⟨?_, rfl⟩
  unfold RunsInRange
  decide +kernel

/-- The 18 heads of the small bore, and a RESYNC that is next. -/
theorem witness_HeadsPlacedKept :
    let s := { run with pending := [.resync .a []] }
    HeadsPlaced s ∧ s.heads.length = 18 ∧ step s = .next (after (.resync .a []) run) :=
  ⟨headsPlaced_of (b := bore) (by decide +kernel) (by decide +kernel), by decide +kernel, rfl⟩

/-- Station 5 about to be LOST: lane 2 CLEARING beside a CLEAR section with its timer running, beside a DISTURBED one, and
CLEARED under a hold. -/
theorem witness_MissingReplies_clearing :
    let losing := fun (s : State) => atSlot 5 (withNode 5 (fun r => { r with health := .suspect, missRun := 24 }) s)
    let worn := withLane 2 (fun r => { r with holdRemaining := 700 }) changing
    let held := { cleared with plan := { cleared.plan with hold := ⟨true, false, []⟩ } }
    (PlanSound (losing worn) ∧ PlanSound (losing held)) ∧
    ((lane? (losing worn) 2).map (fun r => (r.phase, r.holdRunning)) = some (.clearing, true) ∧
      sectionAt (losing worn) 2 0 = some (0, .clear) ∧
      (lane? (after (.nodeLost 5 none none) (losing worn)) 2).map (fun r => (r.phase, r.holdRemaining)) =
        some (.clearing, 144000)) ∧
    (sectionAt (losing (withSection 2 0 SectionRecord.disturb worn)) 2 0 = some (0, .disturbed) ∧
      (lane? (after (.nodeLost 5 none none) (losing (withSection 2 0 SectionRecord.disturb worn))) 2).map
        (fun r => (r.phase, r.holdRemaining)) = some (.clearing, 700)) ∧
    ((losing held).plan.hold.active = true ∧ laneAt (losing held) 2 = some (.cleared, some .falling) ∧
      laneAt (after (.nodeLost 5 none none) (losing held)) 2 = some (.clearing, none)) := by
  refine ⟨⟨?_, ?_⟩, by decide +kernel, by decide +kernel, by decide +kernel⟩ <;>
    (unfold PlanSound LaneRecord.Agrees; decide +kernel)

/-- Windows without the consequence their row names: a second miss, a twenty-fourth, a data run of 48, a busy run of 248. -/
theorem test_named_windows_without :
    let s := atSlot 2 (withNode 2 (fun r => { r with missRun := 1 }) run)
    let u := atSlot 2 (withNode 2 (fun r => { r with health := .suspect, missRun := 23 }) run)
    let v := atSlot 2 (withNode 2 (fun r => { r with health := .lost, dataRun := 48 }) run)
    let w := atSlot 2 (withNode 2 (fun r => { r with busyRun := 248 }) run)
    after (.nodeSuspect 2 none none) s = s ∧ after (.nodeLost 2 none none) u = u ∧
      after (.nodeRecovered 2 normal2 none) v = v ∧
      after (.busyExpiry 2 (some (chainBlock [2#8, 1#8])) none) w = w := by decide +kernel

/-- Nodes INTEGRATING in STARTUP, before the last and the last of a frame, and one on its 250th BUSY reply. -/
theorem witness_MissingReplies_startup :
    let s := fun n => { loaded with chain := { loaded.chain with frame := some ⟨1, .hold, [], n, [], false, false⟩ } }
    ∀ n ∈ [2, 5, 6], ((s n).pins.resetLow = false ∧ (s n).psc.part = .startup ∧ (s n).image = some bore) ∧
      (s n).chain.frame.map (fun f => (f.slot, f.cut)) = some (n, false) ∧ (s n).psc.startupFrames < 249 ∧
      (node? (s n) n).map (fun r => (r.node, r.health)) = some (n, .integrating) ∧
      (node? (after (.busyExpiry n (some (chainBlock [byte n, 1#8])) none)
        (withNode n (fun r => { r with busyRun := 249 }) (s n))) n).map (·.health) = some .lost := by decide +kernel

/-- Data run 49 and busy runs 249 and 250, for a gantry and for a station. -/
theorem witness_NodeRecoveryAndBusyExpiry :
    windowOutcome .gantry 2 normal2 normal2 =
      .valid ⟨.ready, false, [1, 2, 2, 0, 0, 0, 2, 2, 1, 0, 0, 0].map byte⟩ ∧
    windowOutcome .station 5 (loops 5 [0, 0, 0, 0, 0, 0]) none = .valid ⟨.ready, false, List.replicate 6 0#8⟩ ∧
    windowOutcome .station 5 (some (chainBlock [5#8, 1#8])) none = .valid ⟨.busy, false, []⟩ ∧
    (node? (withNode 5 (fun r => { r with health := .lost, dataRun := 49 }) run) 5).map
      (fun r => (r.node, r.kind, r.health, r.dataRun)) = some (5, .station, .lost, 49) ∧
    (node? (withNode 2 (fun r => { r with busyRun := 249 }) run) 2).map
      (fun r => (r.node, r.kind, r.busyRun)) = some (2, .gantry, 249) ∧
    (node? (withNode 5 (fun r => { r with health := .lost, busyRun := 250 }) run) 5).map
      (fun r => (r.node, r.kind, r.busyRun)) = some (5, .station, 250) := by decide +kernel

/-- A plan that a CHANGE has moved is sound, and the next step is taken. -/
theorem witness_PlanSoundKept : PlanSound changing ∧ step changing = .next (tick changing) :=
  ⟨planSound_changing, rfl⟩

/-- Eight entries, the first in flight. -/
theorem witness_QueueBoundKept :
    let s := { run with chain := { run.chain with
      queue := ⟨.a, 2, .identify, true⟩ :: List.replicate 7 ⟨.b, 3, .identify, false⟩ } }
    QueueBound s ∧ step s = .next (tick s) := by
  refine ⟨?_, rfl⟩
  unfold QueueBound
  decide +kernel

/-- Room for one more and none; a slot with and without an entry; a transaction in flight of each kind. -/
theorem witness_ServiceTransaction : Admitted run .a 0x2B ∧ node? run 7 = none ∧ operationOf 6 = none ∧
    (node? run 2).map (·.kind) = some .gantry ∧ operationOf 2 = some .probeNow ∧ operationOf 4 = some .loopDetail ∧
    run.chain.queue.length < 8 ∧ polls run = true ∧
    run.image = some bore ∧
    ((atSlot 7 run).chain.frame.map (fun f => (f.serviceBegun, f.cut, f.slot))) = some (false, false, 4 + 2 + 1) ∧
    (after (.service .a [2#8, 2#8]) run).chain.queue.map (·.inFlight) = [false] ∧
    (let s := after .serviceSlotStart (atSlot 7 (after (.service .a [2#8, 2#8]) run));
      s.chain.queue.map (·.inFlight) = [true] ∧ s.chain.frame.map (·.serviceBegun) = some true ∧
        serviceReply .gantry ⟨.a, 2, .probeNow, true⟩
          (some (chainBlock ([2#8, 2#8, 0#8] ++ List.replicate 6 0#8 ++ List.replicate 6 8#8))) =
          some ⟨.ready, List.replicate 6 0#8 ++ List.replicate 6 8#8⟩ ∧ nodeLost s 2 = false ∧
        (head? s 2 1 .falling).map (fun h => (h.proof, headPosition h.lane h.face)) = some (.proven, 6)) ∧
    8 ≤ (List.replicate 8 (⟨.a, 2, .identify, false⟩ : ServiceEntry)).length := by
  unfold Admitted Ready Gated
  decide +kernel

theorem planSound_loaded : PlanSound loaded := by unfold PlanSound LaneRecord.Agrees; decide +kernel

/-- Gantry 2 and station 5 INTEGRATING with one data reply behind them; the same reply again, and none before. -/
theorem witness_NodesIntegrate :
    let one := fun n => withNode n (fun r => { r with dataRun := 1, lastStatus := some .ready }) loaded
    let s := fun n => { one n with chain := { (one n).chain with frame := some ⟨1, .hold, [], n, [], false, false⟩ } }
    PlanSound loaded ∧ ((s 2).psc.part = .startup ∧ (s 2).pins.resetLow = false ∧ (s 2).image = some bore) ∧
      (node? (s 2) 2).map (fun r => (r.node, r.kind, r.health, r.dataRun)) = some (2, .gantry, .integrating, 1) ∧
      (node? (s 5) 5).map (fun r => (r.node, r.kind, r.health, r.dataRun)) = some (5, .station, .integrating, 1) ∧
      5 < bore.gantries.length + bore.stations.length ∧
      windowOutcome .gantry 2 normal2 none = .valid ⟨.ready, false, [1, 2, 2, 0, 0, 0, 2, 2, 1, 0, 0, 0].map byte⟩ ∧
      windowOutcome .station 5 (loops 5 [0, 0, 0, 0, 0, 0]) none = .valid ⟨.ready, false, List.replicate 6 0#8⟩ :=
  ⟨planSound_loaded, by decide +kernel⟩

/-- A STARTUP at the last node's slot, at a frame count, its nodes of a health, its heads as the normal pattern shows. -/
def startingUp (frames : Nat) (health : Health) : State :=
  { loaded with
    psc := { loaded.psc with startupFrames := frames }
    heads := loaded.heads.map (fun h => { h with reported := if normal h then .arrow else .cross })
    chain := { loaded.chain with
      nodes := loaded.chain.nodes.map (fun r => { r with health := health })
      frame := some ⟨0, .hold, [], 6, [], false, false⟩ } }

/-- The last node's window with every node integrated, and with the others INTEGRATING at counts 248 and 249. -/
theorem witness_StartupEnds :
    (∀ frames ∈ [248, 249], ∀ health ∈ [Health.good, .integrating],
      let s := startingUp frames health
      s.pins.resetLow = false ∧ s.psc.part = .startup ∧ s.image = some bore ∧ s.psc.startupFrames = frames ∧
      s.chain.frame.map (fun f => (f.slot, f.cut)) = some (6, false) ∧ (node? s 6).map (·.node) = some 6 ∧
      (s.chain.nodes.any (fun r => decide (r.health = .integrating))) = decide (health = .integrating)) ∧
    PlanSound loaded ∧ loaded.psc.startupKind = some .fresh ∧
    (after .restartNFall run).psc.startupKind = some .restarted := by
  refine ⟨by decide +kernel, planSound_loaded, by decide +kernel⟩

/-- Every node GOOD and the heads of the normal pattern reported: lanes 1 and 3 meet the conditions of a recovery OPEN, lane
2 does not, and the pattern is legal; under a required buffer with lane 2 RISING as well it is not. -/
theorem witness_StartupEnds_recovery :
    (∀ h ∈ (startingUp 2 .good).heads, (h.lane = 1 → if h.face = .rising then isArrow h.reported = true else
        h.reported = .cross) ∧ (h.lane = 3 → if h.face = .falling then isArrow h.reported = true else
        h.reported = .cross) ∧ (h.lane = 2 → h.reported = .cross)) ∧
    (∀ d ∈ [Dir.rising, .falling], ∀ lane ∈ [1, 2, 3],
      ((startingUp 2 .good).heads.any fun h => decide (h.lane = lane ∧ h.face = d)) = true) ∧
    (∀ r ∈ (startingUp 2 .good).chain.nodes, r.health = .good) ∧ bore.stations ≠ [] ∧
    Legal bore [some .rising, none, some .falling] ∧
    ¬ Legal { bore with bufferRequired := true } [some .rising, some .rising, some .falling] := by
  refine ⟨by decide +kernel, by decide +kernel, by decide +kernel, by decide, (Laws.legalPattern_iff _ _).mp (by decide),
    fun h => absurd ((Laws.legalPattern_iff _ _).mpr h) (by decide)⟩

/-- Persistence 1, and persistence 3 at the third report. -/
theorem witness_DecoderTable :
    let c : Crossing := ⟨0, 1, .idle, ⟨false, false⟩, none, 0, false, false⟩
    (⟨true, false⟩ : LoopPair) ≠ c.accepted ∧
      (if c.candidate = some ⟨true, false⟩ then min 1 (c.count + 1) else 1) = 1 ∧
      (acceptPair 3 ⟨true, false⟩ { c with candidate := some ⟨true, false⟩, count := 2 }).1.phase = .r1 ∧
      (if c.candidate = some ⟨true, false⟩ then min 3 (c.count + 1) else 1) ≠ 3 := by
  decide

/-- Persistence 3: a pair reported twice, and the accepted pair, move no decoder (R21). -/
theorem test_not_accepted :
    let c : Crossing := ⟨0, 1, .idle, ⟨false, false⟩, some ⟨true, false⟩, 1, false, false⟩
    acceptPair 3 ⟨true, false⟩ c = ({ c with count := 2 }, .quiet) ∧
      acceptPair 1 ⟨false, false⟩ c = ({ c with candidate := some ⟨false, false⟩, count := 1 }, .quiet) := by decide

/-- A vehicle leaves over loop B at station 0 of lane 2 while lane 2 is CLEARING, and while it is CLEARED; the other lanes
are quiet. A loop fault on lane 1. -/
theorem witness_PassagesCounted :
    let s := atSlot 5 (leaving changing)
    let u := atSlot 5 (leaving cleared)
    let heard := loops 5 [0, 0, 0, 0, 0, 0]
    (s.pins.resetLow = false ∧ s.psc.part = .run ∧ s.image = some bore ∧ s.chain.frame.map (·.slot) = some 5 ∧
      (node? s 5).map (fun r => (r.node, r.kind, r.health)) = some (5, .station, .good)) ∧
    (bore.stations[5 - 4 - 1]?).map (·.persistence) = some 1 ∧
    windowOutcome .station 5 heard none = .valid ⟨.ready, false, List.replicate 6 0#8⟩ ∧
    windowOutcome .station 5 (loops 5 [0x80, 0, 0, 0, 0, 0]) none = .valid ⟨.ready, false, 0x80#8 :: List.replicate 5 0#8⟩ ∧
    (crossing? s bore 0 2).map (fun c => (c.faulty, (acceptPair 1 ⟨false, false⟩ { c with loopFault := false }).2)) =
      some (false, .risingPassage) ∧
    (∀ lane ∈ [1, 3], (crossing? s bore 0 lane).map
      (fun c => (c.faulty, (acceptPair 1 ⟨false, false⟩ { c with loopFault := false }).2)) = some (false, .quiet)) ∧
    laneAt s 2 = some (.clearing, none) ∧ laneAt u 2 = some (.cleared, some .falling) ∧
    laneAt (after (.nodeReplyWindowEnd 5 heard none) u) 2 = some (.clearing, none) := by decide +kernel

/-- A new loop fault on lane 2 beside a CLEAR section, and beside a DISTURBED one, while lane 2 is CLEARING. -/
theorem witness_PassagesCounted_fault :
    let s := atSlot 5 (withLane 2 (fun r => { r with holdRemaining := 700 }) changing)
    let heard := loops 5 [0, 0x80, 0, 0, 0, 0]
    let left := fun (u : State) => (lane? (after (.nodeReplyWindowEnd 5 heard none) u) 2).map
      (fun r => (r.phase, r.holdRemaining))
    windowOutcome .station 5 heard none = .valid ⟨.ready, false, [0#8, 0x80#8, 0#8, 0#8, 0#8, 0#8]⟩ ∧
      (crossing? s bore 0 2).map (fun c => (c.faulty, c.loopFault)) = some (false, false) ∧
      sectionAt s 2 0 = some (0, .clear) ∧ laneAt s 2 = some (.clearing, none) ∧
      left s = some (.clearing, 144000) ∧ left (withSection 2 0 SectionRecord.disturb s) = some (.clearing, 700) := by
  decide +kernel

theorem witness_PassagesCounted_sound : PlanSound (atSlot 5 (leaving changing)) ∧
    PlanSound (atSlot 5 (leaving cleared)) := by
  constructor <;> (unfold PlanSound LaneRecord.Agrees; decide +kernel)

/-- Station 5 LOST with its crossing points FAULTY. -/
def lostStation : State := after (.nodeLost 5 none none)
  (atSlot 5 (withNode 5 (fun r => { r with health := .suspect, missRun := 24 }) run))

/-- What `FaultySound` says, station by station and lane by lane. -/
def faultySoundB (s : State) (b : Bore) : Bool :=
  (List.range b.stations.length).all fun k => (List.range (b.lanes.length + 1)).all fun lane =>
    (crossing? s b k lane).all fun c => decide (c.faulty = true ↔ c.loopFault = true ∨
      (node? s (b.gantries.length + k + 1)).map (·.health) = some .lost)

theorem faultySound_of {s : State} {b : Bore} (hb : s.image = some b) (h : faultySoundB s b = true) : FaultySound s := by
  intro b' hb' k lane c hc
  obtain rfl : b = b' := Option.some.inj (hb.symm.trans hb')
  have hr : lane ≤ b.lanes.length ∧ k < b.stations.length := by
    unfold crossing? at hc
    split at hc
    · next h => exact ⟨h.2.1, h.2.2⟩
    · cases hc
  simp only [faultySoundB, List.all_eq_true, List.mem_range] at h
  have := h k hr.2 lane (by omega)
  simp only [hc, Option.all_some, decide_eq_true_eq, Option.map_eq_some_iff] at this
  exact this

/-- A station LOST in RUN, as it stays and at its fiftieth data reply, and one INTEGRATING in STARTUP. -/
theorem witness_PassagesCounted_faulty : FaultySound lostStation ∧ FaultySound loaded ∧ PlanSound lostStation ∧
    (∀ run ∈ [0, 49], (node? (withNode 5 (fun r => { r with dataRun := run }) lostStation) 5).map
      (fun r => (r.health, r.dataRun)) = some (.lost, run)) ∧
    (crossing? lostStation bore 0 2).map (·.faulty) = some true ∧ loaded.psc.part = .startup ∧
    (node? loaded 5).map (·.health) = some .integrating := by
  refine ⟨faultySound_of (b := bore) (by decide +kernel) (by decide +kernel),
    faultySound_of (b := bore) (by decide +kernel) (by decide +kernel), ?_, by decide +kernel⟩
  unfold PlanSound LaneRecord.Agrees
  decide +kernel

/-- A station LOST, and the next step. -/
theorem witness_FaultySoundKept : FaultySound lostStation ∧ step lostStation = .next (tick lostStation) :=
  ⟨faultySound_of (b := bore) (by decide +kernel) (by decide +kernel), rfl⟩

theorem witness_SectionsSoundKept : SectionsSound run ∧ step run = .next (tick run) := by
  refine ⟨?_, rfl⟩
  unfold SectionsSound SectionRecord.Sound
  decide +kernel

/-- Section (2, 0) DISTURBED. -/
def disturbed : State := withSection 2 0 SectionRecord.disturb run

/-- Section (2, 0) RESTORE_PENDING for link A. -/
def pending (window : Nat) : State := withSection 2 0 (fun x => { x with state := .restorePending .a window 0 }) run

theorem witness_RestoreRefusalsAndModes_sweep : Admitted disturbed .b 0x29 ∧ disturbed.image = some bore ∧
    sectionAt disturbed 2 0 = some (0, .disturbed) ∧ crossingFaulty disturbed bore 0 2 = false ∧
    crossingFaulty disturbed bore 1 2 = false := by
  unfold Admitted Ready Gated
  decide +kernel

theorem witness_RestoreRefusalsAndModes : Admitted disturbed .a 0x29 ∧ sectionAt? disturbed bore 2 1 = none ∧
    sectionAt? disturbed bore 0 0 = none ∧ sectionAt? disturbed bore 4 0 = none ∧ (0#8 ≠ 1#8 ∧ 3#8 ≠ 2#8) ∧
    Admitted run .a 0x29 ∧ sectionAt run 2 0 = some (0, .clear) ∧ sectionAt disturbed 2 0 = some (0, .disturbed) ∧
    crossingFaulty { disturbed with count := { disturbed.count with
      crossings := disturbed.count.crossings.map (fun c => { c with faulty := true }) } } bore 1 2 = true ∧
    sectionAt (pending 0) 2 0 = some (0, .restorePending .a 0 0) := by
  unfold Admitted Ready Gated
  decide +kernel

/-- A window of 1 s left, a CLEAR section, a section absent and no image. -/
theorem witness_RestoreRefusalsAndModes_early : sectionAt (pending 1) 2 0 = some (0, .restorePending .a 1 0) ∧
    sectionAt run 2 0 = some (0, .clear) ∧ sectionAt? run bore 2 1 = none ∧ faulted.image = none ∧
    after (.restoreWindowExpiry 2 0) (pending 1) = pending 1 := by decide +kernel

theorem witness_ConfirmRestoreClears : Ready (pending 5) .b ∧ (pending 5).image = some bore ∧
    (pending 5).psc.part = .run ∧ locked (pending 5) .b = false ∧ Ready lockedA .a ∧ locked lockedA .a = true ∧
    Ready (inPart .config run) .a ∧ (inPart .config run).psc.part ≠ .run ∧ sectionAt? (pending 5) bore 2 1 = none ∧
    sectionAt (pending 5) 1 0 = some (0, .clear) ∧ sectionAt (pending 5) 2 0 = some (0, .restorePending .a 5 0) := by
  unfold Ready
  decide +kernel

/-- The widest span, an empty one, one past 8000; a free record, none free, and a present one. -/
theorem witness_SpanRecords : Admitted run .a 0x25 ∧ (lane? run 3).isSome = true ∧ lane? run 4 = none ∧
    (0x1F#8).toNat * 256 + (0x40#8).toNat = 8000 ∧ span? run 0 = none ∧ 0 < run.store.spans.length ∧
    (∀ k < 12, span? { run with store := { run.store with
      spans := List.replicate 12 (some ⟨1, 0, 8000, .a⟩) } } k ≠ none) ∧
    Admitted run .b 0x26 ∧ 11 < (12#8).toNat ∧ (11#8).toNat ≤ 11 ∧ span? run 11 = none ∧
    (span? (after (.closeSpan .a [1#8, 0#8, 0#8, 0x1F#8, 0x40#8]) run) 0).isSome = true := by
  unfold Admitted Ready Gated
  decide +kernel

/-- A zone and both portals, targets out of range; an overlay present and none, an input origin active. -/
theorem witness_OverlayRequests : Admitted run .a 0x27 ∧ run.image = some bore ∧
    (1 ≤ (1#8).toNat ∧ (1#8).toNat ≤ bore.zones.length) ∧ ¬ (2#8).toNat ≤ bore.zones.length ∧
    ((2#8).toNat ≤ 2 ∧ ¬ (3#8).toNat ≤ 2) ∧ overlay? run (.zone 1) = none ∧
    (overlay? (after (.raiseOverlay .b [1#8, 1#8]) run) (.zone 1)).isSome = true ∧
    Admitted (after (.raiseOverlay .b [1#8, 1#8]) run) .a 0x28 ∧
    (overlay? { run with store := { run.store with overlays := [⟨.portal 2, false, false, [⟨0, true⟩]⟩] } }
      (.portal 2)).map (fun v => v.inputs.any (·.active)) = some true := by
  unfold Admitted Ready Gated
  decide +kernel

/-- An overlay present and the inhibit set. -/
theorem witness_OverlayInhibitsKept : let s := after (.raiseOverlay .b [1#8, 1#8]) run
    OverlayInhibits s ∧ s.store.overlays ≠ [] ∧ step s = .next (tick s) := by
  refine ⟨fun _ => ?_, ?_, rfl⟩ <;> decide +kernel

/-- EIN0 to EIN3, one of each function, at their filter times, closing and opening. -/
theorem witness_ContactsAndFilters :
    let s := { run with
      pins := { run.pins with contacts := List.replicate 16 Contact.closed }
      inputs := run.inputs.map (fun r => { r with pending := filterMs r.cfg.filter }) }
    let u := { run with inputs := run.inputs.map (fun r => { r with active := true, pending := 50 }) }
    s.pins.contacts[0]? ≠ some Contact.opened ∧ s.pins.contacts[0]? = some Contact.closed ∧ s.pins.resetLow = false ∧
      (s.inputs.take 4).map (fun r => r.cfg.function) = [.zoneStop 1, .sequenceHold, .lockLink .a, .unrouted] ∧
      (∀ i < 4, (s.inputs[i]?).any (fun r =>
        decide (atActiveLevel r.cfg.polarity (contactOf s i) ≠ r.active) &&
          decide (filterMs r.cfg.filter ≤ r.pending)) = true) ∧
      (∀ i < 4, (u.inputs[i]?).any (fun r =>
        decide (atActiveLevel r.cfg.polarity (contactOf u i) ≠ r.active) &&
          decide (filterMs r.cfg.filter ≤ r.pending)) = true) := by decide +kernel

/-- EIN0 departed and 1 ms short of its 50, EIN1 at the level it holds, and an input that does not exist. -/
theorem witness_ContactsAndFilters_early :
    let s := { run with
      pins := { run.pins with contacts := Contact.closed :: List.replicate 15 Contact.opened }
      inputs := run.inputs.map (fun r => { r with pending := 49 }) }
    ((s.inputs[0]?).any (fun r => decide (atActiveLevel r.cfg.polarity (contactOf s 0) ≠ r.active) &&
        decide (r.pending < filterMs r.cfg.filter)) = true) ∧
      ((s.inputs[1]?).any (fun r => decide (atActiveLevel r.cfg.polarity (contactOf s 1) = r.active)) = true) ∧
      s.inputs[16]? = none ∧ after (.filteredLevelChange 0) s = s ∧ after (.filteredLevelChange 1) s = s := by
  decide +kernel

/-- A bore with every lane CLOSED, and the normal pattern. -/
theorem witness_ConfigReloadRestart :
    let s := { run with plan := { run.plan with lanes := run.plan.lanes.map (LaneRecord.settleAs none) } }
    Admitted s .a 0x30 ∧ (∀ r ∈ s.plan.lanes, r.phase = .closed) ∧ (∀ c ∈ s.plan.contexts, c.isActive = false) ∧
      Admitted run .a 0x30 ∧ (lane? run 1).map (·.phase) = some .opened ∧ Admitted faulted .b 0x31 ∧
      Admitted (inPart .config run) .a 0x31 ∧ Admitted loaded .a 0x32 :=
  ⟨adm (by decide +kernel), by decide +kernel, by decide +kernel, adm (by decide +kernel), by decide +kernel,
    adm (by decide +kernel), adm (by decide +kernel), adm (by decide +kernel)⟩

/-- A bus not idle for 9 ms yet, a retry at 9 ms, and each event out of its phase (R162). -/
theorem witness_LoaderAttempts_early :
    let due := { State.reset with loader := { Loader.begin with waitMs := 9 } }
    let waiting := { State.reset with loader := { Loader.begin with phase := .waiting, failed := 1, waitMs := 9 } }
    let reading := after .cfgAttemptStart State.reset
    due.loader.phase = .due ∧ after .cfgIdleTimeout due = due ∧ waiting.loader.phase = .waiting ∧
      after .cfgRetryDue waiting = waiting ∧ after .cfgAttemptStart waiting = waiting ∧
      after .memoryNotAcknowledged due = due ∧ reading.loader.phase = .reading ∧
      after .cfgIdleTimeout reading = reading ∧ after .cfgRetryDue reading = reading := by decide +kernel

theorem witness_LoaderAttempts : State.reset.pins.resetLow = false ∧ State.reset.psc.part = .loading ∧
    State.reset.loader.phase = .due ∧ State.reset.loader.failed < 3 ∧
    ({ Loader.begin with phase := .reading, failed := 3 } : Loader).failed = 3 ∧
    10 ≤ ({ Loader.begin with phase := .waiting, waitMs := 10 } : Loader).waitMs := by decide

/-- The bytes of an accepted header of the least and the greatest length, and of a refused one; the body of the small
bore with its CRC and with another. -/
theorem witness_LoaderReads : (reading (crc32 body) body).pins.resetLow = false ∧
    (reading (crc32 body) body).psc.part = .loading ∧ (reading (crc32 body) body).loader.phase = .reading ∧
    (reading (crc32 body) body).loader.transaction = .body ∧
    body.length + 16 = (reading (crc32 body) body).loader.totalLength ∧
    crc32 body = (reading (crc32 body) body).loader.crc ∧ crc32 body ≠ (reading (~~~ crc32 body) body).loader.crc := by
  refine ⟨rfl, rfl, rfl, rfl, rfl, rfl, fun h => ?_⟩
  have : ∀ x : BitVec 32, x ≠ ~~~ x := fun x e => by
    have := congrArg (·.getLsbD 0) e
    simp at this
  exact this _ h

theorem witness_LoaderReads_header : headerGood ([0x54#8, 0x46#8, 0x34#8, 0x38#8, 0#8, 1#8, 0#8, 17#8] ++
      List.replicate 8 0#8) = true ∧
    headerGood ([0x54#8, 0x46#8, 0x34#8, 0x38#8, 0#8, 1#8, 0x20#8, 0#8] ++ List.replicate 8 0#8) = true ∧
    headerGood ([0x54#8, 0x46#8, 0x34#8, 0x38#8, 0#8, 1#8, 0#8, 16#8] ++ List.replicate 8 0#8) = false ∧
    headerGood ([0x54#8, 0x46#8, 0x34#8, 0x38#8, 0#8, 2#8, 0#8, 17#8] ++ List.replicate 8 0#8) = false := by decide

/-- The body of the small bore with its byte at a place changed. -/
def bodyWith (place : Nat) (x : Byte) : List Byte := body.set place x

/-- Bodies that fail a pass, each past the passes before it: a byte too many; station 1 at 610 m; lane 1 FIXED_FALLING and
lane 3 FIXED_RISING. -/
theorem witness_LoaderReads_faults :
    rangePass (body ++ [0#8]) = .error ⟨.range, .inputs, none⟩ ∧
    ((rangePass ((bodyWith 53 2#8).set 54 0x62#8)).bind orderPass) = .error ⟨.order, .stations, some 1⟩ ∧
    ((rangePass ((bodyWith 14 1#8).set 18 0#8)).bind (fun b => (orderPass b).bind (fun _ => patternPass b))) =
      .error ⟨.pattern, .lanes, none⟩ := by decide +kernel

/-- An accepted body, and orders with a first gantry and a first station at fault. -/
theorem witness_AcceptedImageMeans : rangePass body = .ok bore ∧ orderPass bore = .ok () ∧
    rangePass (bodyWith 0 7#8) = .error ⟨.range, .bore, none⟩ ∧
    orderPass { bore with gantries := [⟨5, .body, 0, 0, 0⟩, ⟨6, .approach1, 0, 0, 0⟩] } =
      .error ⟨.order, .gantries, some 2⟩ ∧
    orderPass { bore with stations := [⟨600, 1⟩, ⟨610, 1⟩] } = .error ⟨.order, .stations, some 1⟩ := by decide +kernel

end Sys2Proof.Tests
end

section
/-! SUPPORT. What settling leaves as it is of the lanes in no ACTIVE context: `IdleKept` of every operation of the engine
and the Lane Plan Unit, and of `settled` (R45, R61, R86, R90). -/

namespace Sys2Proof.Machine

open Sys2Proof

/-! ### The relations -/

/-- From `s` to `t` every lane outside `H` keeps its phase, direction and context, and no lane comes to be held in an
ACTIVE context. -/
structure Confined (H : Nat → Prop) (s t : State) : Prop where
  others : ∀ lane, ¬ H lane → (lane? t lane).map laneHanded = (lane? s lane).map laneHanded
  held : ∀ lane, Held t lane → Held s lane

/-- From `s` to `t` nothing is done but to the lanes held in `s`, and no other lane comes to be held. -/
def IdleKept (s t : State) : Prop := Confined (Held s) s t

theorem Confined.refl (H : Nat → Prop) (s : State) : Confined H s s := ⟨fun _ _ => rfl, fun _ h => h⟩

theorem Confined.trans {H : Nat → Prop} {s t u : State} (h : Confined H s t) (k : Confined H t u) : Confined H s u :=
  ⟨fun lane n => (k.others lane n).trans (h.others lane n), fun lane x => h.held lane (k.held lane x)⟩

theorem Confined.mono {H K : Nat → Prop} {s t : State} (h : Confined H s t) (hk : ∀ lane, H lane → K lane) :
    Confined K s t := ⟨fun lane n => h.others lane fun x => n (hk lane x), h.held⟩

theorem IdleKept.refl (s : State) : IdleKept s s := Confined.refl _ s

theorem IdleKept.trans {s t u : State} (h : IdleKept s t) (k : IdleKept t u) : IdleKept s u :=
  Confined.trans h (Confined.mono k h.held)

theorem IdleKept.idleStand {s t : State} (h : IdleKept s t) : IdleStand s t := h.others

/-- A fold of confined steps is confined. -/
theorem confined_foldl {H : Nat → Prop} {α : Type} (f : State → α → State) (xs : List α) (s : State)
    (h : ∀ s, ∀ x ∈ xs, Confined H s (f s x)) : Confined H s (xs.foldl f s) := by
  induction xs generalizing s with
  | nil => exact Confined.refl H s
  | cons x xs ih => exact (h s x (by simp)).trans (ih _ fun s y hy => h s y (by simp [hy]))

/-- The same of a fold that carries a flag beside the state. -/
theorem confined_foldlPair {H : Nat → Prop} {α : Type} (f : State × Bool → α → State × Bool) (xs : List α)
    (p : State × Bool) (h : ∀ p, ∀ x ∈ xs, Confined H p.1 (f p x).1) : Confined H p.1 (xs.foldl f p).1 := by
  induction xs generalizing p with
  | nil => exact Confined.refl H _
  | cons x xs ih => exact (h p x (by simp)).trans (ih _ fun p y hy => h p y (by simp [hy]))

theorem idleKept_foldlPair {α : Type} (f : State × Bool → α → State × Bool) (h : ∀ p x, IdleKept p.1 (f p x).1)
    (xs : List α) (p : State × Bool) : IdleKept p.1 (xs.foldl f p).1 := by
  induction xs generalizing p with
  | nil => exact IdleKept.refl _
  | cons x xs ih => exact (h p x).trans (ih _)

/-! ### Lane records and contexts -/

/-- Who is held is read from the contexts alone (R86). -/
theorem held_congr {s t : State} (h : t.plan.contexts = s.plan.contexts) (lane : Nat) : Held t lane ↔ Held s lane := by
  simp only [Held, heldLanes, ctx?, h]

/-- Lane records and contexts alone say what a confined step may not do. -/
theorem confined_of_plan (H : Nat → Prop) {s t : State} (h : t.plan = s.plan) : Confined H s t :=
  ⟨fun lane _ => by simp [lane?, h], fun lane => (held_congr (by rw [h]) lane).mp⟩

theorem confined_modifyLane {H : Nat → Prop} {lane : Nat} (h : H lane) (f : LaneRecord → LaneRecord) (s : State) :
    Confined H s (modifyLane lane f s) :=
  ⟨fun other n => by rw [lane?_modifyLane_other lane other f s fun e => n (e ▸ h)],
    fun other => (held_congr (modifyLane_contexts lane f s) other).mp⟩

/-- A change of a lane record beside its phase, direction and context is confined to no lane at all. -/
theorem confined_modifyLane_handed (H : Nat → Prop) (lane : Nat) (f : LaneRecord → LaneRecord) (s : State)
    (h : ∀ r, laneHanded (f r) = laneHanded r) : Confined H s (modifyLane lane f s) := by
  refine ⟨fun other _ => ?_, fun other => (held_congr (modifyLane_contexts lane f s) other).mp⟩
  by_cases e : other = lane
  · subst e
    rw [lane?_modifyLane, Option.map_map, show laneHanded ∘ f = laneHanded from funext h]
  · rw [lane?_modifyLane_other lane other f s e]

/-- Lanes a context holds. -/
def Ctx.lanesHeld : Ctx → List Nat
  | .active body => body.heldEntries.map (·.lane)
  | _ => []

theorem heldLanes_of_ctx {s : State} {k : Nat} {c : Ctx} (h : ctx? s k = some c) : heldLanes s k = c.lanesHeld := by
  cases c <;> simp [heldLanes, h, Ctx.lanesHeld]

theorem held_of_entry {s : State} {k : Nat} {body : CtxBody} {e : CtxEntry} (hk : ctx? s k = some (.active body))
    (he : e ∈ body.heldEntries) : Held s e.lane :=
  ⟨k, (List.getElem?_eq_some_iff.mp hk).1, by
    rw [heldLanes_of_ctx hk]
    exact List.mem_map_of_mem he⟩

/-- A context put in place of one that holds every lane it holds. -/
theorem confined_putCtx (H : Nat → Prop) {k : Nat} {c old : Ctx} {s : State} (hk : ctx? s k = some old)
    (h : ∀ lane ∈ c.lanesHeld, lane ∈ old.lanesHeld) : Confined H s (putCtx k c s) := by
  have hlen : k < s.plan.contexts.length := (List.getElem?_eq_some_iff.mp hk).1
  refine ⟨fun lane _ => by rw [lane?_putCtx], fun lane ⟨j, hj, hm⟩ => ?_⟩
  by_cases e : j = k
  · subst e
    rw [heldLanes_of_ctx (ctx?_putCtx j c s hlen)] at hm
    exact ⟨j, hlen, heldLanes_of_ctx hk ▸ h lane hm⟩
  · exact ⟨j, by simpa using hj, by simpa only [heldLanes, ctx?_putCtx_other k j c s e] using hm⟩

theorem confined_modifyActive (H : Nat → Prop) (k : Nat) (f : CtxBody → CtxBody) (s : State)
    (h : ∀ body, ∀ lane ∈ (Ctx.active (f body)).lanesHeld, lane ∈ (Ctx.active body).lanesHeld) :
    Confined H s (modifyActive k f s) := by
  unfold modifyActive
  split
  case h_1 body hk => exact confined_putCtx H hk (h body)
  case h_2 => exact Confined.refl H s

/-- A change of a lane's held entry that holds no other lane makes the context hold no further lane. -/
theorem lanesHeld_onHeld {lane : Nat} {f : CtxEntry → CtxEntry} (h : ∀ e, (f e).lane = e.lane) (body : CtxBody) :
    ∀ x ∈ (Ctx.active (body.onHeld lane f)).lanesHeld, x ∈ (Ctx.active body).lanesHeld := by
  simp only [Ctx.lanesHeld, CtxBody.heldEntries, CtxBody.onHeld, List.mem_map, List.mem_filter]
  rintro x ⟨_, ⟨⟨e, he, rfl⟩, hheld⟩, rfl⟩
  by_cases hc : e.lane = lane ∧ e.held = true
  · exact ⟨e, ⟨he, hc.2⟩, by rw [if_pos hc, h]⟩
  · rw [if_neg hc] at hheld ⊢
    exact ⟨e, ⟨he, hheld⟩, rfl⟩

/-! ### The engine (R44, R45) -/

theorem confined_writeFlags (H : Nat → Prop) (obs : List Obstruction) (s : State) : Confined H s (writeFlags obs s) :=
  confined_foldl _ _ s fun s _ _ => confined_modifyLane_handed H _ _ s fun _ => rfl

theorem confined_rewriteHeads (H : Nat → Prop) (v : Derive) (s : State) : Confined H s
    ({ s with heads := s.heads.map (rewriteHead v s) }.reportAll ((writtenGantries v s.heads).map flagGantry)) :=
  confined_of_plan H (by simp)

theorem confined_computeOnce (H : Nat → Prop) (s : State) : Confined H s (computeOnce s).1 := by
  unfold computeOnce
  split
  case h_1 => exact Confined.refl H s
  case h_2 b _ =>
    split
    · have hheads := confined_rewriteHeads H (deriveView b s) s
      exact (hheads.trans (confined_writeFlags H (deriveView b s).obstructions _)).trans
        (confined_of_plan H (by simp [reportProtection]))
    · exact Confined.refl H s

/-! ### The Lane Plan Unit (R90) -/

theorem confined_clearConflicts (H : Nat → Prop) (s : State) : Confined H s (clearConflicts s) :=
  confined_foldl _ _ s fun s _ _ => by
    split
    · exact confined_modifyLane_handed H _ _ s fun _ => rfl
    · exact Confined.refl H s

section Held

variable {H : Nat → Prop} {lane : Nat}

theorem confined_enterClearing (h : H lane) (k : Nat) (d : Option Dir) (s : State) :
    Confined H s (enterClearing k lane d s) := by
  have hsnap : Confined H s (takeSnapshot k lane s) :=
    (confined_modifyActive H k (CtxBody.onHeld lane fun e => { e with snapshot := some (laneOccupancies s lane) }) s
      (lanesHeld_onHeld fun _ => rfl)).trans (confined_of_plan H rfl)
  exact hsnap.trans (confined_modifyLane h _ _)

variable (H)

theorem confined_releaseLane (k lane : Nat) (s : State) : Confined H s (releaseLane k lane s) :=
  confined_modifyActive H k _ s (lanesHeld_onHeld fun _ => rfl)

theorem confined_finishCtx (k : Nat) (s : State) : Confined H s (finishCtx k s) := by
  unfold finishCtx
  split
  case h_1 body hk =>
    split
    · exact confined_putCtx H hk (by simp [Ctx.lanesHeld])
    · exact Confined.refl H s
  case h_2 => exact Confined.refl H s

theorem confined_formWait (b : Bore) (k : Nat) (s : State) : Confined H s (formWait b k s) := by
  unfold formWait
  split
  · exact confined_modifyActive H k _ s fun _ _ hl => hl
  · exact Confined.refl H s

end Held

theorem confined_openingStep {H : Nat → Prop} {body : CtxBody} (h : ∀ e ∈ body.heldEntries, H e.lane) (k : Nat)
    (s : State) : Confined H s (openingStep k body s) := by
  refine (confined_foldl _ _ s fun s e he => ?_).trans (confined_finishCtx H k _)
  split
  · exact (confined_modifyLane (h e he) _ s).trans (confined_releaseLane H k _ _)
  · exact confined_modifyLane (h e he) _ s

/-- A step taken where its condition holds, and nothing otherwise. -/
theorem confined_stepIf {H : Nat → Prop} {s t : State} (h : Confined H s t) (c : Bool) :
    Confined H s (if c then (t, true) else (s, false)).1 := by
  cases c
  · exact Confined.refl H s
  · exact h

theorem confined_advanceLane {H : Nat → Prop} {e : CtxEntry} (h : H e.lane) (b : Bore) (k : Nat) (s : State) :
    Confined H s (advanceLane b k e s).1 := by
  unfold advanceLane
  split
  case h_1 => exact Confined.refl H s
  case h_2 r _ =>
    split
    case h_1 => exact confined_stepIf (confined_enterClearing h k _ s) _
    case h_2 => exact confined_stepIf (confined_modifyLane h _ s) _
    case h_3 => exact confined_stepIf (confined_modifyLane h _ s) _
    case h_4 d _ _ =>
      have hreleased := (confined_modifyLane h (LaneRecord.settleAs (some d)) s).trans
        (confined_releaseLane H k e.lane _)
      exact confined_stepIf (hreleased.trans (confined_finishCtx H k _)) _
    case h_5 => exact Confined.refl H s

theorem idleKept_examineCtx (b : Bore) (k : Nat) (s : State) : IdleKept s (examineCtx b k s).1 := by
  unfold examineCtx
  split
  case h_1 body hk =>
    have hheld : ∀ e ∈ body.heldEntries, Held s e.lane := fun e he => held_of_entry hk he
    split
    · exact IdleKept.refl s
    · split
      · split
        · exact confined_openingStep hheld k s
        · exact IdleKept.refl s
      · exact confined_foldlPair _ _ (s, false) fun p e he => confined_advanceLane (hheld e he) b k p.1
  case h_2 => exact IdleKept.refl s

theorem idleKept_examineAll (b : Bore) (s : State) : IdleKept s (examineAll b s).1 :=
  idleKept_foldlPair
    (fun p k => ((examineCtx b k (formWait b k p.1)).1, p.2 || (examineCtx b k (formWait b k p.1)).2))
    (fun p k => IdleKept.trans (confined_formWait (Held p.1) b k p.1) (idleKept_examineCtx b k _)) _ (s, false)

/-! ### Settling -/

theorem idleKept_settle (fuel : Nat) (compute : Bool) (s : State) : IdleKept s (settle fuel compute s) := by
  induction fuel generalizing compute s with
  | zero => exact IdleKept.refl s
  | succ n ih =>
    unfold settle
    split
    case h_1 => exact IdleKept.refl s
    case h_2 b _ =>
      have hengine : IdleKept s (if compute then computeOnce s else (s, false)).1 := by
        cases compute
        · exact IdleKept.refl s
        · exact confined_computeOnce _ s
      have hround := (hengine.trans (confined_clearConflicts _ _)).trans (idleKept_examineAll b _)
      generalize (if compute then computeOnce s else (s, false)) = q at hround ⊢
      dsimp only
      split
      · exact hround.trans (ih _ _)
      · exact hround

/-- Once for all: the engine and the Lane Plan Unit, acting on each other, move no lane that no ACTIVE context holds
(R86, R90). -/
theorem idleKept_settled (compute : Bool) (s : State) : IdleKept s (settled compute s) := idleKept_settle _ _ _

end Sys2Proof.Machine
end

section
/-! SUPPORT. A request answered OK after its owning block's work: the checks that refuse it, and what of the work the
reply leaves as it stands (R181, R182, R184). -/

namespace Sys2Proof.Machine

open Sys2Proof

/-! ### Checks 2 and 3 of R181 -/

theorem linkCheck_gated {s : State} {l : Link} {code : Nat} {ok : Bool} (h : admits code s.psc.part = false) :
    linkCheck s l code ok = some .state := by simp [linkCheck, h]

theorem linkCheck_locked {s : State} {l : Link} {code : Nat} {ok : Bool} (h : admits code s.psc.part = true)
    (hc : 0x20 ≤ code) (hl : locked s l = true) : linkCheck s l code ok = some .locked := by
  simp [linkCheck, h, hc, hl]

/-- A request of the road blocks is admitted in RUN alone (R181 check 2). -/
theorem admits_run_only {code : Nat} (h : 0x20 ≤ code ∧ code ≤ 0x30) (p : PartState) :
    admits code p = decide (p = .run) := by
  rw [admits, if_neg (by omega), if_pos h.2]

/-! ### The reply written after the work -/

theorem recorded_beginReply {s : State} {i : Nat} (h : Recorded s i) (l : Link) (code : Nat) (fields : List Byte)
    (a : Answer) : Recorded (beginReply l code fields a s) i := by cases l <;> exact h

theorem beginReply_plan (l : Link) (code : Nat) (fields : List Byte) (a : Answer) (s : State) :
    (beginReply l code fields a s).plan = s.plan := State.setUnit_plan ..

theorem beginReply_count (l : Link) (code : Nat) (fields : List Byte) (a : Answer) (s : State) :
    (beginReply l code fields a s).count = s.count := State.setUnit_count ..

theorem line_reply {u v : LinkUnit} (h : u.line = v.line) (e : Option Exchange) :
    { u with serving := true, exchange := e }.line = { v with serving := true, exchange := e }.line := by
  simp only [LinkUnit.line, Prod.mk.injEq] at h ⊢
  obtain ⟨hrx, -, -, hleaving, hoverrun⟩ := h
  exact ⟨hrx, trivial, trivial, hleaving, hoverrun⟩

/-- The same reply, begun in two states that agree on the road, leaves them so. -/
theorem RoadSame.beginReply {s t : State} (h : RoadSame s t) (l : Link) (code : Nat) (fields : List Byte)
    (a : Answer) : RoadSame (beginReply l code fields a s) (beginReply l code fields a t) := by
  cases l with
  | a => exact { h with lineA := line_reply h.lineA _ }
  | b => exact { h with lineB := line_reply h.lineB _ }

/-- The reply begun on a state whose records of counting differ from the one the frame was taken in. -/
theorem beginReply_ok_count (l : Link) (code : Nat) (fields : List Byte) (s : State) (c : Counting) :
    beginReply l code fields (Answer.plain .ok) { setRx l Receiver.idle s with count := c } =
      { s.answered l code fields .ok [] .unset with count := c } := by
  rw [← beginReply_plain l code fields .ok s]
  cases l <;> rfl

/-- A request whose owning block refuses it with the state untouched. -/
theorem serve_plain {code : Nat} {ok : List Byte → Bool} {body : Link → List Byte → State → State × Answer} {l : Link}
    {fields : List Byte} {s : State} {st : Status} (h : Ready s l) (hc : linkCheck s l code (ok fields) = none)
    (hbody : body l fields (setRx l Receiver.idle s) = (setRx l Receiver.idle s, Answer.plain st)) :
    serve code ok body l fields s = s.answered l code fields st [] .unset := by
  rw [serve_body h hc, hbody]
  exact beginReply_plain l code fields st s

end Sys2Proof.Machine
end

section
/-! SUPPORT. Restores: what the change of a section's state writes and leaves, and the four outcomes of CONFIRM_RESTORE's
service (R33 to R39). -/

namespace Sys2Proof.Machine

open Sys2Proof

/-! ### Sections through the records of counting (R29) -/

/-- Sections are read from the records of counting alone. -/
theorem sectionAt?_congr {s t : State} (h : t.count = s.count) (b : Bore) (lane index : Nat) :
    sectionAt? t b lane index = sectionAt? s b lane index := by simp only [sectionAt?, h]

theorem setRx_count (l : Link) (r : Receiver) (s : State) : (setRx l r s).count = s.count := State.setUnit_count ..

theorem sectionAt?_setRx (l : Link) (r : Receiver) (s : State) (b : Bore) (lane index : Nat) :
    sectionAt? (setRx l r s) b lane index = sectionAt? s b lane index :=
  sectionAt?_congr (setRx_count l r s) b lane index

/-! ### A section taken to another state by a restore (R33, R35, R37, R39) -/

section Restore

variable {b : Bore} {lane index : Nat} {f : SectionRecord → SectionRecord} {s : State} {x : SectionRecord}

theorem roadSame_modifySection (h : sectionAt? s b lane index = some x) :
    RoadSame { s with count := { s.count with sections := s.count.sections.set (sectionPlace b lane index) (f x) } }
      (modifySection b lane index f s) := by
  simp only [modifySection, h]
  exact roadSame_reportIf _ _ _

/-- A change to another section state is recorded in SECTIONS (R33). -/
theorem recorded_modifySection (h : sectionAt? s b lane index = some x)
    (hnew : sameSectionState (f x).state x.state = false) (hl : lane ≤ 6) :
    Recorded (modifySection b lane index f s) (flagSections lane) := by
  simp only [modifySection, h, hnew]
  exact recorded_report _ _ (by simp only [flagSections]; omega)

theorem roadSame_restoreSection (h : sectionAt? s b lane index = some x) :
    RoadSame { s with count := { s.count with sections := s.count.sections.set (sectionPlace b lane index) (f x) } }
      (restoreSection b lane index f s) := (roadSame_modifySection h).trans (roadSame_settled _ _)

theorem idleKept_restoreSection : IdleKept s (restoreSection b lane index f s) :=
  IdleKept.trans (confined_of_plan (Held s) (modifySection_plan ..)) (idleKept_settled _ _)

theorem sectionAt?_restoreSection :
    sectionAt? (restoreSection b lane index f s) b lane index = (sectionAt? s b lane index).map f := by
  rw [restoreSection, sectionAt?_congr (roadSame_settled _ _).count, sectionAt?_modifySection]

theorem recorded_restoreSection (h : sectionAt? s b lane index = some x)
    (hnew : sameSectionState (f x).state x.state = false) (hl : lane ≤ 6) :
    Recorded (restoreSection b lane index f s) (flagSections lane) :=
  (recorded_modifySection h hnew hl).keep (roadSame_settled _ _)

end Restore

/-! ### CONFIRM_RESTORE (R39) -/

theorem exec_confirmRestore (l : Link) (fields : List Byte) (s : State) :
    exec (.confirmRestore l fields) s = .next (serve 0x2A (exactly 2) confirmBody l fields s) := rfl

section Confirm

variable {s : State} {b : Bore} {l : Link} {lane index : Byte} {x : SectionRecord}

theorem confirmBody_absent (hb : s.image = some b) (h : sectionAt? s b lane.toNat index.toNat = none) :
    confirmBody l [lane, index] s = (s, Answer.plain .range) := by
  simp [confirmBody, field, hb, h]

theorem confirmBody_notPending (hb : s.image = some b) (h : sectionAt? s b lane.toNat index.toNat = some x)
    (hx : ∀ q w m, x.state ≠ .restorePending q w m) : confirmBody l [lane, index] s = (s, Answer.plain .state) := by
  cases hstate : x.state with
  | restorePending q w m => exact absurd hstate (hx q w m)
  | _ => simp [confirmBody, field, hb, h, hstate]

theorem confirmBody_sameLink {w m : Nat} (hb : s.image = some b)
    (h : sectionAt? s b lane.toNat index.toNat = some x) (hx : x.state = .restorePending l w m) :
    confirmBody l [lane, index] s = (s, Answer.plain .sameLink) := by
  simp [confirmBody, field, hb, h, hx]

theorem confirmBody_otherLink {q : Link} {w m : Nat} (hb : s.image = some b)
    (h : sectionAt? s b lane.toNat index.toNat = some x) (hx : x.state = .restorePending q w m) (hq : q ≠ l) :
    confirmBody l [lane, index] s =
      (restoreSection b lane.toNat index.toNat SectionRecord.confirmed s, Answer.plain .ok) := by
  simp [confirmBody, field, hb, h, hx, hq]

end Confirm

end Sys2Proof.Machine

namespace Sys2Proof.Proofs

open Sys2Proof Sys2Proof.Machine

/-- CONFIRM_RESTORE passes the link checks in RUN from a link that is not locked (R39, R181). -/
theorem linkCheck_confirm {s : State} {l : Link} (hrun : s.psc.part = .run) (hl : locked s l = false) (ok : Bool) :
    linkCheck s l 0x2A ok = if ok then none else some .format := by
  cases ok <;> simp [linkCheck, admits_run_only, hrun, hl]

/-- The confirmed restore of a section that the other link left pending (R39). -/
theorem confirm_clears {s : State} {b : Bore} {l q : Link} {lane index : Byte} {x : SectionRecord} {w m : Nat}
    (hb : s.image = some b) (hr : Ready s l) (hrun : s.psc.part = .run) (hl : locked s l = false)
    (h : sectionAt? s b lane.toNat index.toNat = some x) (hx : x.state = .restorePending q w m) (hq : q ≠ l) :
    ∃ t, exec (.confirmRestore l [lane, index]) s = .next t ∧
      RoadSame { s.answered l 0x2A [lane, index] .ok [] .unset with
        count := { s.count with
          sections := s.count.sections.set (sectionPlace b lane.toNat index.toNat) x.confirmed } } t ∧
      sectionAt? t b lane.toNat index.toNat = some x.confirmed ∧
      IdleStand s t ∧ (lane.toNat ≤ 6 → Recorded t (flagSections lane.toNat)) := by
  have hsec : sectionAt? (setRx l Receiver.idle s) b lane.toNat index.toNat = some x := by rw [sectionAt?_setRx, h]
  have himage : (setRx l Receiver.idle s).image = some b := (State.setUnit_image ..).trans hb
  refine ⟨_, rfl, ?_⟩
  rw [serve_body hr (linkCheck_confirm hrun hl _), confirmBody_otherLink himage hsec hx hq]
  refine ⟨?_, ?_, ?_, fun h6 => ?_⟩
  · rw [← beginReply_ok_count, ← setRx_count l Receiver.idle s]
    exact (roadSame_restoreSection hsec).beginReply l _ _ _
  · rw [sectionAt?_congr (beginReply_count ..), sectionAt?_restoreSection, hsec]
    rfl
  · have hframe : IdleKept s (setRx l Receiver.idle s) := confined_of_plan _ (State.setUnit_plan ..)
    exact ((hframe.trans idleKept_restoreSection).trans (confined_of_plan _ (beginReply_plan ..))).idleStand
  · have hnew : sameSectionState x.confirmed.state x.state = false := by rw [hx]; rfl
    exact recorded_beginReply (recorded_restoreSection hsec hnew h6) l _ _ _

/-- Settles O52: outside RUN and from a locked link the unit refuses, and in RUN the four outcomes of the service are
the four cases of the section named. -/
theorem confirmRestoreClears : Obligations.ConfirmRestoreClears := by
  intro s b l lane index hb hr
  have himage : (setRx l Receiver.idle s).image = some b := (State.setUnit_image ..).trans hb
  simp only [exec_confirmRestore]
  refine ⟨fun hpart => ?_, fun hrun hl => ?_, fun hrun hl => ?_⟩
  · rw [serve_refused hr (linkCheck_gated (by simp [admits_run_only, hpart]))]
  · rw [serve_refused hr (linkCheck_locked (by simp [admits_run_only, hrun]) (by decide) hl)]
  · have hc : linkCheck s l 0x2A (exactly 2 [lane, index]) = none := linkCheck_confirm hrun hl _
    refine ⟨fun habsent => ?_, fun x h => ⟨fun hx => ?_, fun w m hx => ?_, fun q w m hx hq => ?_⟩⟩
    · rw [serve_plain hr hc (confirmBody_absent himage (by rw [sectionAt?_setRx, habsent]))]
    · rw [serve_plain hr hc (confirmBody_notPending himage (by rw [sectionAt?_setRx, h]) hx)]
    · rw [serve_plain hr hc (confirmBody_sameLink himage (by rw [sectionAt?_setRx, h]) hx)]
    · exact confirm_clears hb hr hrun hl h hx hq

end Sys2Proof.Proofs
end

section
/-! The acceptance of a loop pair and the decode table (R21, R22). -/

namespace Sys2Proof.Machine

open Sys2Proof

/-- Times a pair has been reported in a row at a crossing point, counted up to the persistence (R21). -/
def reportedInRow (persistence : Nat) (pair : LoopPair) (c : Crossing) : Nat :=
  if c.candidate = some pair then min persistence (c.count + 1) else 1

theorem acceptPair_eq (persistence : Nat) (pair : LoopPair) (c : Crossing) :
    acceptPair persistence pair c =
      if reportedInRow persistence pair c = persistence ∧ pair ≠ c.accepted then
        ({ c with
            candidate := some pair
            count := reportedInRow persistence pair c
            accepted := pair
            phase := (decodeStep c.phase pair).1 }, (decodeStep c.phase pair).2)
      else ({ c with candidate := some pair, count := reportedInRow persistence pair c }, .quiet) := rfl

/-- A pair not accepted is the candidate with its count, and moves nothing else (R21). -/
theorem acceptPair_of_not_accepted {persistence : Nat} {pair : LoopPair} {c : Crossing}
    (h : pair = c.accepted ∨ reportedInRow persistence pair c ≠ persistence) :
    acceptPair persistence pair c =
      ({ c with candidate := some pair, count := reportedInRow persistence pair c }, .quiet) := by
  rw [acceptPair_eq, if_neg fun ⟨hcount, hnew⟩ => h.elim hnew fun hshort => hshort hcount]

/-- An accepted pair moves the decoder by its table (R21, R22). -/
theorem acceptPair_of_accepted {persistence : Nat} {pair : LoopPair} {c : Crossing} (hnew : pair ≠ c.accepted)
    (hcount : reportedInRow persistence pair c = persistence) :
    acceptPair persistence pair c =
      ({ c with
          candidate := some pair
          count := persistence
          accepted := pair
          phase := (decodeStep c.phase pair).1 }, (decodeStep c.phase pair).2) := by
  rw [acceptPair_eq, if_pos ⟨hcount, hnew⟩, hcount]

end Sys2Proof.Machine

namespace Sys2Proof.Proofs

open Sys2Proof Sys2Proof.Machine

/-- Settles O47: an accepted pair takes the step of `decodeStep`, whose 28 cells, one for each phase and pair, are those
of R22. -/
theorem decoderTable : Obligations.DecoderTable := by
  intro c persistence pair
  refine ⟨acceptPair_of_not_accepted, fun hnew hcount => ⟨_, _, ?_, acceptPair_of_accepted hnew hcount⟩⟩
  obtain ⟨loopA, loopB⟩ := pair
  cases c.phase <;> cases loopA <;> cases loopB <;> decide

end Sys2Proof.Proofs
end
